-- ==== Sys2Proof/Word.lean ====
section
/-! DEFINITION. The widths of the hardware's values (spec/00_scope.md rule R7). -/

namespace Sys2Proof

/-- W, a file register and the result of every data operation: 8 bits (rule R7, `XLEN`). -/
abbrev Byte := BitVec 8

/-- An instruction word: 14 bits (rule R7, `WORD`). -/
abbrev ProgWord := BitVec 14

/-- A program address and the PC: 13 bits (rule R7, `PC_BITS`). -/
abbrev ProgAddr := BitVec 13

/-- The field `f` of an instruction: 7 bits (rule R7, `F_BITS`). -/
abbrev FileAddr := BitVec 7

/-- A resolved data address: 8 bits, the bank bit in bit 7 (rule R63). -/
abbrev DataAddr := BitVec 8

/-- The field `b` of an instruction: 3 bits (rule R7, `B_BITS`). -/
abbrev BitIndex := BitVec 3

end Sys2Proof
end

