-- ==== Sys2Proof/Syntax.lean ====
section
/-! DEFINITION. The 37 instructions (spec/opcode_table.json, spec/30_encoding.md rules R100 to R104). -/

namespace Sys2Proof

/-- The destination designator `d` (rule R120): d = 0 is W, d = 1 is the file register. -/
inductive Dest where
  | w
  | f
deriving DecidableEq, Repr

/-- One constructor per row of spec/opcode_table.json, in the table's order. -/
inductive Instr where
  | addwf (d : Dest) (f : FileAddr)
  | andwf (d : Dest) (f : FileAddr)
  | clrf (f : FileAddr)
  | clrw
  | comf (d : Dest) (f : FileAddr)
  | decf (d : Dest) (f : FileAddr)
  | decfsz (d : Dest) (f : FileAddr)
  | incf (d : Dest) (f : FileAddr)
  | incfsz (d : Dest) (f : FileAddr)
  | iorwf (d : Dest) (f : FileAddr)
  | movf (d : Dest) (f : FileAddr)
  | movwf (f : FileAddr)
  | nop
  | rlf (d : Dest) (f : FileAddr)
  | rrf (d : Dest) (f : FileAddr)
  | subwf (d : Dest) (f : FileAddr)
  | swapf (d : Dest) (f : FileAddr)
  | xorwf (d : Dest) (f : FileAddr)
  | bcf (b : BitIndex) (f : FileAddr)
  | bsf (b : BitIndex) (f : FileAddr)
  | btfsc (b : BitIndex) (f : FileAddr)
  | btfss (b : BitIndex) (f : FileAddr)
  | addlw (k : Byte)
  | andlw (k : Byte)
  | call (k : BitVec 11)
  | clrwdt
  | goto (k : BitVec 11)
  | iorlw (k : Byte)
  | movlw (k : Byte)
  | retfie
  | retlw (k : Byte)
  | ret
  | sleep
  | sublw (k : Byte)
  | xorlw (k : Byte)
  | option
  /-- `f` is the 3-bit number of a TRIS register, not a file address (rule R96). -/
  | tris (f : BitVec 3)
deriving DecidableEq, Repr

end Sys2Proof
end

