-- ==== Sys2Proof/WellFormed.lean ====
section
/-! DEFINITION. Which terms of `Instr` are instructions of the hardware. The operand ranges of
spec/30_encoding.md rule R97 are those of the fields' widths, but for TRIS. -/

namespace Sys2Proof

/-- The operand constraint of TRIS, "5 ≤ f ≤ 7" (rule R96). -/
def trisOperandOk (f : BitVec 3) : Bool := decide (5 ≤ f.toNat)

/-- The operand ranges of rule R97. -/
def Instr.wf (i : Instr) : Bool :=
  match i with
  | .addwf _ _ => true
  | .andwf _ _ => true
  | .clrf _ => true
  | .clrw => true
  | .comf _ _ => true
  | .decf _ _ => true
  | .decfsz _ _ => true
  | .incf _ _ => true
  | .incfsz _ _ => true
  | .iorwf _ _ => true
  | .movf _ _ => true
  | .movwf _ => true
  | .nop => true
  | .rlf _ _ => true
  | .rrf _ _ => true
  | .subwf _ _ => true
  | .swapf _ _ => true
  | .xorwf _ _ => true
  | .bcf _ _ => true
  | .bsf _ _ => true
  | .btfsc _ _ => true
  | .btfss _ _ => true
  | .addlw _ => true
  | .andlw _ => true
  | .call _ => true
  | .clrwdt => true
  | .goto _ => true
  | .iorlw _ => true
  | .movlw _ => true
  | .retfie => true
  | .retlw _ => true
  | .ret => true
  | .sleep => true
  | .sublw _ => true
  | .xorlw _ => true
  | .option => true
  | .tris f => trisOperandOk f

end Sys2Proof
end

