-- ==== Sys2Proof/Decode.lean ====
section
/-! DEFINITION. The decoder and the encoder (spec/30_encoding.md rules R90 to R108). -/

namespace Sys2Proof

/-- Why a word is no instruction (rules R106, R108). -/
inductive DecodeRefusal where
  /-- The word matches no row of rules R100 to R104. -/
  | unassignedEncoding (w : ProgWord)
  /-- A 16-bit container holds something in bits 15:14 (rule R108). -/
  | containerBits (w : BitVec 16)
deriving DecidableEq, Repr

/-- Operand `d`: bit 7 (rule R97). -/
def destField (w : ProgWord) : Dest := if w.getLsbD 7 then .f else .w

/-- Operand `f` of formats B and T: bits 6:0 (rule R97). -/
def fileField (w : ProgWord) : FileAddr := w.extractLsb' 0 7

/-- Operand `b`: bits 9:7 (rule R97). -/
def bitField (w : ProgWord) : BitIndex := w.extractLsb' 7 3

/-- Operand `k` of format L: bits 7:0 (rule R97). -/
def literalField (w : ProgWord) : Byte := w.extractLsb' 0 8

/-- Operand `k` of format J: bits 10:0 (rule R97). -/
def targetField (w : ProgWord) : BitVec 11 := w.extractLsb' 0 11

/-- The control subgroup, words 0x0000 to 0x007F (rule R101). -/
def decodeControl (w : ProgWord) : Except DecodeRefusal Instr :=
  match w.toNat with
  | 0x0000 => .ok .nop
  | 0x0020 => .ok .nop
  | 0x0040 => .ok .nop
  | 0x0060 => .ok .nop
  | 0x0008 => .ok .ret
  | 0x0009 => .ok .retfie
  | 0x0062 => .ok .option
  | 0x0063 => .ok .sleep
  | 0x0064 => .ok .clrwdt
  | 0x0065 => .ok (.tris 5#3)
  | 0x0066 => .ok (.tris 6#3)
  | 0x0067 => .ok (.tris 7#3)
  | _ => .error (.unassignedEncoding w)

/-- Group 00, by bits 11:8 and then bit 7 (rule R100). -/
def decodeByteOriented (w : ProgWord) : Except DecodeRefusal Instr :=
  match (w.extractLsb' 8 4).toNat with
  | 0b0000 => if w.getLsbD 7 then .ok (.movwf (fileField w)) else decodeControl w
  | 0b0001 => if w.getLsbD 7 then .ok (.clrf (fileField w)) else .ok .clrw
  | 0b0010 => .ok (.subwf (destField w) (fileField w))
  | 0b0011 => .ok (.decf (destField w) (fileField w))
  | 0b0100 => .ok (.iorwf (destField w) (fileField w))
  | 0b0101 => .ok (.andwf (destField w) (fileField w))
  | 0b0110 => .ok (.xorwf (destField w) (fileField w))
  | 0b0111 => .ok (.addwf (destField w) (fileField w))
  | 0b1000 => .ok (.movf (destField w) (fileField w))
  | 0b1001 => .ok (.comf (destField w) (fileField w))
  | 0b1010 => .ok (.incf (destField w) (fileField w))
  | 0b1011 => .ok (.decfsz (destField w) (fileField w))
  | 0b1100 => .ok (.rrf (destField w) (fileField w))
  | 0b1101 => .ok (.rlf (destField w) (fileField w))
  | 0b1110 => .ok (.swapf (destField w) (fileField w))
  | _ => .ok (.incfsz (destField w) (fileField w))

/-- Group 01, by bits 11:10 (rule R102). -/
def decodeBitOriented (w : ProgWord) : Instr :=
  match (w.extractLsb' 10 2).toNat with
  | 0b00 => .bcf (bitField w) (fileField w)
  | 0b01 => .bsf (bitField w) (fileField w)
  | 0b10 => .btfsc (bitField w) (fileField w)
  | _ => .btfss (bitField w) (fileField w)

/-- Group 10, by bit 11 (rule R103). -/
def decodeJump (w : ProgWord) : Instr :=
  if w.getLsbD 11 then .goto (targetField w) else .call (targetField w)

/-- Group 11, by bits 11:8, the don't-care bits of rule R98 masked out (rule R104). -/
def decodeLiteral (w : ProgWord) : Except DecodeRefusal Instr :=
  match (w.extractLsb' 8 4).toNat with
  | 0b0000 => .ok (.movlw (literalField w))
  | 0b0001 => .ok (.movlw (literalField w))
  | 0b0010 => .ok (.movlw (literalField w))
  | 0b0011 => .ok (.movlw (literalField w))
  | 0b0100 => .ok (.retlw (literalField w))
  | 0b0101 => .ok (.retlw (literalField w))
  | 0b0110 => .ok (.retlw (literalField w))
  | 0b0111 => .ok (.retlw (literalField w))
  | 0b1000 => .ok (.iorlw (literalField w))
  | 0b1001 => .ok (.andlw (literalField w))
  | 0b1010 => .ok (.xorlw (literalField w))
  | 0b1011 => .error (.unassignedEncoding w)
  | 0b1100 => .ok (.sublw (literalField w))
  | 0b1101 => .ok (.sublw (literalField w))
  | _ => .ok (.addlw (literalField w))

/-- The decoder, total on 14-bit words: bits 13:12 select the group (rules R99, R108). -/
def decode (w : ProgWord) : Except DecodeRefusal Instr :=
  match (w.extractLsb' 12 2).toNat with
  | 0b00 => decodeByteOriented w
  | 0b01 => .ok (decodeBitOriented w)
  | 0b10 => .ok (decodeJump w)
  | _ => decodeLiteral w

/-- A word held in a 16-bit container, whose bits 15:14 must be 0 (rule R108). -/
def decodeContainer (c : BitVec 16) : Except DecodeRefusal Instr :=
  if c.extractLsb' 14 2 = 0#2 then decode (c.setWidth 14) else .error (.containerBits c)

/-- The bit `d` of format B (rule R91). -/
def Dest.bit (d : Dest) : BitVec 1 :=
  match d with
  | .w => 0#1
  | .f => 1#1

/-- The encoder: the word of an instruction, its don't-care bits 0 (rules R91 to R96, R98, R100 to
R104). -/
def encode (i : Instr) : ProgWord :=
  match i with
  | .addwf d f => 0b000111#6 ++ d.bit ++ f
  | .andwf d f => 0b000101#6 ++ d.bit ++ f
  | .clrf f => 0b0000011#7 ++ f
  | .clrw => 0b00000100000000#14
  | .comf d f => 0b001001#6 ++ d.bit ++ f
  | .decf d f => 0b000011#6 ++ d.bit ++ f
  | .decfsz d f => 0b001011#6 ++ d.bit ++ f
  | .incf d f => 0b001010#6 ++ d.bit ++ f
  | .incfsz d f => 0b001111#6 ++ d.bit ++ f
  | .iorwf d f => 0b000100#6 ++ d.bit ++ f
  | .movf d f => 0b001000#6 ++ d.bit ++ f
  | .movwf f => 0b0000001#7 ++ f
  | .nop => 0b00000000000000#14
  | .rlf d f => 0b001101#6 ++ d.bit ++ f
  | .rrf d f => 0b001100#6 ++ d.bit ++ f
  | .subwf d f => 0b000010#6 ++ d.bit ++ f
  | .swapf d f => 0b001110#6 ++ d.bit ++ f
  | .xorwf d f => 0b000110#6 ++ d.bit ++ f
  | .bcf b f => 0b0100#4 ++ b ++ f
  | .bsf b f => 0b0101#4 ++ b ++ f
  | .btfsc b f => 0b0110#4 ++ b ++ f
  | .btfss b f => 0b0111#4 ++ b ++ f
  | .addlw k => 0b111110#6 ++ k
  | .andlw k => 0b111001#6 ++ k
  | .call k => 0b100#3 ++ k
  | .clrwdt => 0b00000001100100#14
  | .goto k => 0b101#3 ++ k
  | .iorlw k => 0b111000#6 ++ k
  | .movlw k => 0b110000#6 ++ k
  | .retfie => 0b00000000001001#14
  | .retlw k => 0b110100#6 ++ k
  | .ret => 0b00000000001000#14
  | .sleep => 0b00000001100011#14
  | .sublw k => 0b111100#6 ++ k
  | .xorlw k => 0b111010#6 ++ k
  | .option => 0b00000001100010#14
  | .tris f => 0b00000001100#11 ++ f

/-- The don't-care bits of each encoding (rule R98). -/
def dontCare (i : Instr) : ProgWord :=
  match i with
  | .clrw => 0b00000001111111#14
  | .nop => 0b00000001100000#14
  | .addlw _ => 0b00000100000000#14
  | .sublw _ => 0b00000100000000#14
  | .movlw _ => 0b00001100000000#14
  | .retlw _ => 0b00001100000000#14
  | .addwf _ _ => 0#14
  | .andwf _ _ => 0#14
  | .clrf _ => 0#14
  | .comf _ _ => 0#14
  | .decf _ _ => 0#14
  | .decfsz _ _ => 0#14
  | .incf _ _ => 0#14
  | .incfsz _ _ => 0#14
  | .iorwf _ _ => 0#14
  | .movf _ _ => 0#14
  | .movwf _ => 0#14
  | .rlf _ _ => 0#14
  | .rrf _ _ => 0#14
  | .subwf _ _ => 0#14
  | .swapf _ _ => 0#14
  | .xorwf _ _ => 0#14
  | .bcf _ _ => 0#14
  | .bsf _ _ => 0#14
  | .btfsc _ _ => 0#14
  | .btfss _ _ => 0#14
  | .andlw _ => 0#14
  | .call _ => 0#14
  | .clrwdt => 0#14
  | .goto _ => 0#14
  | .iorlw _ => 0#14
  | .retfie => 0#14
  | .ret => 0#14
  | .sleep => 0#14
  | .xorlw _ => 0#14
  | .option => 0#14
  | .tris _ => 0#14

/-- The instruction the decoder reads from an opcode-table word: the low `nbits` bits of `w` in a
16-bit container, every bit above them 0; a number of more than 16 bits is no container. -/
def decodeTableWord (nbits w : Nat) : Option Instr :=
  let v := w % 2 ^ nbits
  if v < 2 ^ 16 then
    match decodeContainer (BitVec.ofNat 16 v) with
    | .ok i => some i
    | .error _ => none
  else none

end Sys2Proof
end

