-- ==== Sys2Proof/Config.lean ====
section
/-! DEFINITION. What an implementation fixes: the parameters of spec/00_scope.md rule R8. -/

namespace Sys2Proof

/-- `DEVICE`: the members of the family (rule R2). -/
inductive Device where
  | pic16F83
  | pic16F84
  | pic16CR83
  | pic16CR84
deriving DecidableEq, Repr

/-- `STACK_POLICY` (rule R8): what a push of a full stack and a pop of an empty one do. -/
inductive StackPolicy where
  /-- The chip: the stack is circular and says nothing (rules R25, R26). -/
  | wrap
  /-- The conservative model: it counts the live entries and refuses (rules R25, R26). -/
  | fault
deriving DecidableEq, Repr

/-- `ILLEGAL_POLICY` (rule R8): what an unassigned encoding does. The spec gives the parameter one
value: a trap is no option (decision D12), and NOP or a neighbour are forbidden (rule R106). -/
inductive IllegalPolicy where
  | refuse
deriving DecidableEq, Repr

/-- What a resolved data address names (rule R27). `gpr n` is the general-purpose register whose key
is `n`, in the default map its bank-0 address. -/
inductive FileReg where
  | indf
  | tmr0
  | pcl
  | status
  | fsr
  | portA
  | portB
  | eedata
  | eeadr
  | pclath
  | intcon
  | optionReg
  | trisA
  | trisB
  | eecon1
  | eecon2
  | gpr (n : Nat)
  | unimplemented
deriving DecidableEq, Repr

/-- `FILEMAP` (rule R8): the function from a resolved data address to a register, as plain data. -/
inductive FileMap where
  /-- The default: the table of rule R27 for the device. -/
  | ofDevice
  /-- Any other map, by its entries: the first one of an address counts, and an address without one is
  unimplemented. -/
  | table (entries : List (DataAddr × FileReg))
deriving DecidableEq, Repr

/-- `STATUS_LAYOUT` (rule R8): the places of the bits of STATUS. Decision D8 names all eight. -/
structure StatusLayout where
  irp : BitIndex
  rp1 : BitIndex
  rp0 : BitIndex
  toBit : BitIndex
  pdBit : BitIndex
  z : BitIndex
  dc : BitIndex
  c : BitIndex
deriving DecidableEq, Repr

/-- The parameters of rule R8 but for `IRQ` and `PINS`, which are inputs of the step. The step has one
argument, the state, so the state carries them, and no step changes them (log 1 to 4). -/
structure Params where
  device : Device
  /-- `PROG_WORDS`. -/
  progWords : Nat
  /-- `RESET_VECTOR`. -/
  resetVector : ProgAddr
  /-- `INT_VECTOR`. -/
  intVector : ProgAddr
  /-- `STACK_DEPTH`. -/
  stackDepth : Nat
  stackPolicy : StackPolicy
  fileMap : FileMap
  statusLayout : StatusLayout
  illegalPolicy : IllegalPolicy
  /-- `WDT_ENABLED`: the one configuration bit that matters to execution (rule R221). -/
  wdtEnabled : Bool
  /-- `WDT_MIN_CYCLES`; 0 admits a time-out at any boundary (rule R221, log 9). -/
  wdtMinCycles : Nat
deriving DecidableEq, Repr

end Sys2Proof
end

