-- ==== Sys2Proof/Machine/Params.lean ====
section
/-! DEFINITION. The default values of the parameters (spec/00_scope.md rule R8) and what `FILEMAP` says
of an address (spec/10_state.md rule R27). -/

namespace Sys2Proof.Machine

/-- The first general-purpose register (rule R27). -/
def gprFirst : Nat := 0x0C

/-- The last general-purpose register: 0x4F, or 0x2F on the '83 parts (rule R27). -/
def gprLast (d : Device) : Nat :=
  match d with
  | .pic16F83 => 0x2F
  | .pic16CR83 => 0x2F
  | .pic16F84 => 0x4F
  | .pic16CR84 => 0x4F

/-- The bank-0 address `n` is a general-purpose register of the device (rule R27). -/
def isGpr (d : Device) (n : Nat) : Bool := decide (gprFirst ≤ n) && decide (n ≤ gprLast d)

/-- The table of rule R27: bit 7 of the resolved address is the bank, bits 6:0 the place in it. -/
def deviceMap (d : Device) (a : DataAddr) : FileReg :=
  let bank1 := a.getLsbD 7
  match a.toNat % 128 with
  | 0x00 => .indf
  | 0x01 => if bank1 then .optionReg else .tmr0
  | 0x02 => .pcl
  | 0x03 => .status
  | 0x04 => .fsr
  | 0x05 => if bank1 then .trisA else .portA
  | 0x06 => if bank1 then .trisB else .portB
  | 0x08 => if bank1 then .eecon1 else .eedata
  | 0x09 => if bank1 then .eecon2 else .eeadr
  | 0x0A => .pclath
  | 0x0B => .intcon
  | n => if isGpr d n then .gpr n else .unimplemented

/-- The first entry of an address in a table. -/
def tableReg (entries : List (DataAddr × FileReg)) (a : DataAddr) : FileReg :=
  match entries with
  | [] => .unimplemented
  | (b, r) :: rest => if b = a then r else tableReg rest a

/-- `FILEMAP` at a resolved address. -/
def regAt (p : Params) (a : DataAddr) : FileReg :=
  match p.fileMap with
  | .ofDevice => deviceMap p.device a
  | .table entries => tableReg entries a

/-- Some address names the general-purpose register `n`: in the default map one of the device's, in a
table one whose address has it as its first entry. -/
def hasGpr (p : Params) (n : Nat) : Bool :=
  match p.fileMap with
  | .ofDevice => isGpr p.device n
  | .table entries => entries.any fun e => decide (tableReg entries e.1 = .gpr n)

/-- The default of `PROG_WORDS` (rules R2, R8). -/
def defaultProgWords (d : Device) : Nat :=
  match d with
  | .pic16F83 => 512
  | .pic16CR83 => 512
  | .pic16F84 => 1024
  | .pic16CR84 => 1024

/-- The default of `STATUS_LAYOUT` (rules R8, R32, decision D8). -/
def defaultLayout : StatusLayout :=
  { irp := 7#3, rp1 := 6#3, rp0 := 5#3, toBit := 4#3, pdBit := 3#3, z := 2#3, dc := 1#3, c := 0#3 }

/-- The defaults of rule R8 for a device; for `WDT_ENABLED` and `WDT_MIN_CYCLES`, which rule R8 leaves
open, enabled (log 3) and at any boundary (log 9). -/
def deviceParams (d : Device) : Params :=
  { device := d
    progWords := defaultProgWords d
    resetVector := 0x0000#13
    intVector := 0x0004#13
    stackDepth := 8
    stackPolicy := .wrap
    fileMap := .ofDevice
    statusLayout := defaultLayout
    illegalPolicy := .refuse
    wdtEnabled := true
    wdtMinCycles := 0 }

/-- The parameters of `State.reset`: the defaults, for the default device (log 1). -/
def defaultParams : Params := deviceParams .pic16F84

end Sys2Proof.Machine
end

