-- ==== Sys2Proof/Machine/State.lean ====
section
/-! DEFINITION. The machine's state, the reasons a step can stop, and the state after reset
(spec/10_state.md). -/

namespace Sys2Proof.Machine

/-- The STATUS register, bit 7 first (rule R32). All eight bits are implemented. `toBit` and `pdBit`
are the source's TO and PD. -/
structure Status where
  irp : Bool
  rp1 : Bool
  rp0 : Bool
  toBit : Bool
  pdBit : Bool
  z : Bool
  dc : Bool
  c : Bool
deriving DecidableEq, Repr

/-- The INTCON register, bit 7 first (rule R34). All eight bits are implemented. -/
structure Intcon where
  gie : Bool
  eeie : Bool
  t0ie : Bool
  inte : Bool
  rbie : Bool
  t0if : Bool
  intf : Bool
  rbif : Bool
deriving DecidableEq, Repr

/-- The values a power-on leaves unknown: the `x` entries of rule R44, one draw a power-on (rule
R244). `wrerr` is bit 3 of EECON1. -/
structure PowerOnDraw where
  w : Byte
  stack : List ProgAddr
  sp : Nat
  z : Bool
  dc : Bool
  c : Bool
  rbif : Bool
  latchA : BitVec 5
  latchB : Byte
  tmr0 : Byte
  fsr : Byte
  gpr : List Host.Cell
  eedata : Byte
  eeadr : Byte
  wrerr : Bool
  eecon2 : Byte
deriving DecidableEq, Repr

/-- A reset the environment can request (rule R228). Whether an MCLR reset is "during SLEEP" is read
off the state; a Watchdog reset is not requested, it is a time-out (rule R221). -/
inductive ResetRequest where
  | powerOn (draw : PowerOnDraw)
  | mclr
deriving DecidableEq, Repr

/-- The set `IRQ` of interrupt flags the environment raises at a boundary (rule R212). -/
structure IrqFlags where
  intf : Bool
  t0if : Bool
  rbif : Bool
  eeif : Bool
deriving DecidableEq, Repr

/-- The environment's inputs at one step boundary (rule R229). -/
structure Input where
  reset : Option ResetRequest
  wdtTimeout : Bool
  irq : IrqFlags
  /-- `PINS(A)` and `PINS(B)` (rule R68). -/
  pinsA : BitVec 5
  pinsB : Byte
  /-- The increment of TMR0 (rule R222). -/
  timer0 : Nat
  /-- What the free-running Watchdog counter and the prescaler count have advanced by (log 8). -/
  wdtTicks : Byte
  prescalerTicks : Byte
  /-- The time that passes while the core sleeps, in instruction cycles (log 9). -/
  sleepCycles : Nat
deriving DecidableEq, Repr

/-- The state (spec/10_state.md). STATUS, INTCON, PCLATH, FSR, OPTION_REG, the TRIS registers, the
ports, TMR0 and the EEPROM registers are file registers with a field each; `ram` holds the
general-purpose registers, keyed by their bank-0 address (rule R27). -/
structure State where
  /-- The parameters of rule R8; no step changes them (log 1 to 4). -/
  cfg : Params
  w : Byte
  pc : ProgAddr
  /-- The return stack, `STACK_DEPTH` cells, and its pointer, below `STACK_DEPTH` (rule R25). -/
  stack : List ProgAddr
  sp : Nat
  /-- The live entries, counted under `STACK_POLICY = fault` only (rule R25). -/
  depth : Nat
  status : Status
  pclath : BitVec 5
  fsr : Byte
  intcon : Intcon
  optionReg : Byte
  trisA : BitVec 5
  trisB : Byte
  /-- The data latches of the ports (rule R39). -/
  latchA : BitVec 5
  latchB : Byte
  /-- The levels now on the pins: the environment's input of rule R68, the model's own field (log 6). -/
  pinsA : BitVec 5
  pinsB : Byte
  tmr0 : Byte
  /-- The prescaler count, shared by Timer0 and the WDT (rules R35, R38). -/
  prescaler : Byte
  /-- The WDT counter (rule R35). -/
  wdt : Byte
  eedata : Byte
  eeadr : Byte
  eecon1 : BitVec 5
  eecon2 : Byte
  ram : List Host.Cell
  /-- Program memory: the words loaded, by word address (rule R61). -/
  prog : List (Nat × ProgWord)
  /-- Set by SLEEP (rule R41). -/
  sleeping : Bool
  /-- The instruction cycles spent (rule R255). -/
  cycles : Nat
  /-- The time spent asleep, in instruction cycles, and the value of `cycles` and it together when the
  WDT was last cleared: what `WDT_MIN_CYCLES` counts (rule R221); the model's own fields (log 9). -/
  sleepTime : Nat
  wdtClearedAt : Nat
  /-- The environment's inputs still to come, one a step; the model's own field (log 5). -/
  inputs : List Input
deriving DecidableEq, Repr

/-- The hardware has no synchronous exception (rule R210): no step ends in a fault. -/
inductive Fault where
deriving DecidableEq, Repr

/-- The model refusals (spec/93_implementation_defined.md section 2). All are safe: the model stops
where the spec gives no meaning. -/
inductive Refusal where
  /-- Raised by `exec` for an instruction without a meaning; safe. No arm raises it now. -/
  | notModelled (mnemonic : String)
  /-- Raised by the fetch and decode of a step: the word is unassigned (rule R106); safe. -/
  | unassignedEncoding (w : ProgWord)
  /-- Raised by the fetch of a step: no word is loaded at the address (rule R62); safe. -/
  | fetchOutsideImage (a : ProgAddr)
  /-- Raised by CALL and interrupt entry under `STACK_POLICY = fault` (rule R25); safe. -/
  | stackOverflow
  /-- Raised by RETURN, RETLW and RETFIE under `STACK_POLICY = fault` (rule R26); safe. -/
  | stackUnderflow
  /-- Raised by TRIS for a register number other than 5 and 6 (rule R202); safe. -/
  | trisNoSuchPort (f : BitVec 3)
  /-- Raised by DECFSZ and INCFSZ with d = 1 on PCL (rule R129, U10); safe. -/
  | skipWithPclDestination
deriving DecidableEq, Repr

/-- The machine with the parameters `p` after a power-on reset (rule R44), nothing loaded and the
environment silent. Every value rule R44 leaves unknown is 0: DESIGN CHOICE (log 10). -/
def State.resetOf (p : Params) : State :=
  { cfg := p
    w := 0x00#8
    pc := p.resetVector
    stack := List.replicate p.stackDepth 0x0000#13
    sp := 0
    depth := 0
    status :=
      { irp := false, rp1 := false, rp0 := false, toBit := true, pdBit := true, z := false,
        dc := false, c := false }
    pclath := 0x00#5
    fsr := 0x00#8
    intcon :=
      { gie := false, eeie := false, t0ie := false, inte := false, rbie := false, t0if := false,
        intf := false, rbif := false }
    optionReg := 0xFF#8
    trisA := 0x1F#5
    trisB := 0xFF#8
    latchA := 0x00#5
    latchB := 0x00#8
    pinsA := 0x00#5
    pinsB := 0x00#8
    tmr0 := 0x00#8
    prescaler := 0x00#8
    wdt := 0x00#8
    eedata := 0x00#8
    eeadr := 0x00#8
    eecon1 := 0x00#5
    eecon2 := 0x00#8
    ram := []
    prog := []
    sleeping := false
    cycles := 0
    sleepTime := 0
    wdtClearedAt := 0
    inputs := [] }

/-- The machine after reset with the default parameters (rule R8, log 1). -/
def State.reset : State := State.resetOf defaultParams

end Sys2Proof.Machine
end

