-- ==== Sys2Proof/Machine/Flags.lean ====
section
/-! DEFINITION. The 8-bit arithmetic, the rotations and the status bits an instruction writes
(spec/40_byte_oriented.md rules R121, R136, R137, R139, spec/10_state.md rules R30 to R33). -/

namespace Sys2Proof.Machine

/-- What `Add8` and `Sub8` return (rule R121). -/
structure AluResult where
  value : Byte
  c : Bool
  dc : Bool
  z : Bool
deriving DecidableEq, Repr

/-- Z is 1 exactly on a zero result (rule R30). -/
def isZero (r : Byte) : Bool := decide (r = 0x00#8)

/-- `Add8(a, b)` (rule R121). -/
def add8 (a b : Byte) : AluResult :=
  let s := a.toNat + b.toNat
  let r := BitVec.ofNat 8 s
  { value := r
    c := decide (s > 255)
    dc := decide (a.toNat % 16 + b.toNat % 16 > 15)
    z := isZero r }

/-- `Sub8(a, b)`, a minus b by the 2's complement method (rule R121). -/
def sub8 (a b : Byte) : AluResult :=
  let t := a.toNat + (255 - b.toNat) + 1
  let r := BitVec.ofNat 8 t
  { value := r
    c := decide (t > 255)
    dc := decide (a.toNat % 16 + (15 - b.toNat % 16) + 1 > 15)
    z := isZero r }

/-- `v[6:0] ++ cin` (rule R136). -/
def rotateLeft (v : Byte) (cin : Bool) : Byte := v.extractLsb' 0 7 ++ BitVec.ofBool cin

/-- `cin ++ v[7:1]` (rule R137). -/
def rotateRight (v : Byte) (cin : Bool) : Byte := BitVec.ofBool cin ++ v.extractLsb' 1 7

/-- `v[3:0] ++ v[7:4]` (rule R139). -/
def swapNibbles (v : Byte) : Byte := v.extractLsb' 0 4 ++ v.extractLsb' 4 4

/-- `v & ~(1 << b)` (rule R161). -/
def clearBit (v : Byte) (b : BitIndex) : Byte := v &&& ~~~(1#8 <<< b.toNat)

/-- `v | (1 << b)` (rule R162). -/
def setBit (v : Byte) (b : BitIndex) : Byte := v ||| (1#8 <<< b.toNat)

/-- The arithmetic status bits an instruction writes, each with its value if it writes it: its
"Status Affected" entry (rule R30). -/
structure FlagUpdate where
  c : Option Bool
  dc : Option Bool
  z : Option Bool
deriving DecidableEq, Repr

/-- "Status Affected: None". -/
def noFlags : FlagUpdate := { c := none, dc := none, z := none }

/-- "Status Affected: Z". -/
def zFlag (r : Byte) : FlagUpdate := { c := none, dc := none, z := some (isZero r) }

/-- "Status Affected: C". -/
def cFlag (c : Bool) : FlagUpdate := { c := some c, dc := none, z := none }

/-- "Status Affected: C, DC, Z". -/
def aluFlags (r : AluResult) : FlagUpdate := { c := some r.c, dc := some r.dc, z := some r.z }

/-- The instruction writes at least one of Z, DC, C (rule R33). -/
def FlagUpdate.affects (u : FlagUpdate) : Bool := u.c.isSome || u.dc.isSome || u.z.isSome

/-- STATUS after the status bits are written. -/
def FlagUpdate.apply (u : FlagUpdate) (st : Status) : Status :=
  { st with c := u.c.getD st.c, dc := u.dc.getD st.dc, z := u.z.getD st.z }

/-- A byte with `b` at place `p` and 0 elsewhere. -/
def bitAt (p : BitIndex) (b : Bool) : Byte := if b then 1#8 <<< p.toNat else 0x00#8

/-- The byte a file read of STATUS returns, each bit at its place in `STATUS_LAYOUT` (rule R32). -/
def Status.toByte (l : StatusLayout) (st : Status) : Byte :=
  bitAt l.irp st.irp ||| bitAt l.rp1 st.rp1 ||| bitAt l.rp0 st.rp0 ||| bitAt l.toBit st.toBit |||
    bitAt l.pdBit st.pdBit ||| bitAt l.z st.z ||| bitAt l.dc st.dc ||| bitAt l.c st.c

/-- A file write of STATUS. TO and PD ignore it (rule R32); with `flagged`, so do Z, DC and C: the
writing instruction affects one of them (rule R33). -/
def Status.write (l : StatusLayout) (flagged : Bool) (v : Byte) (st : Status) : Status :=
  { st with
    irp := v.getLsbD l.irp.toNat
    rp1 := v.getLsbD l.rp1.toNat
    rp0 := v.getLsbD l.rp0.toNat
    z := if flagged then st.z else v.getLsbD l.z.toNat
    dc := if flagged then st.dc else v.getLsbD l.dc.toNat
    c := if flagged then st.c else v.getLsbD l.c.toNat }

/-- The byte a file read of INTCON returns (rule R34). -/
def Intcon.toByte (ic : Intcon) : Byte :=
  BitVec.ofBool ic.gie ++ BitVec.ofBool ic.eeie ++ BitVec.ofBool ic.t0ie ++ BitVec.ofBool ic.inte ++
    BitVec.ofBool ic.rbie ++ BitVec.ofBool ic.t0if ++ BitVec.ofBool ic.intf ++ BitVec.ofBool ic.rbif

/-- INTCON after a file write: all eight bits are writable (rule R34). -/
def Intcon.ofByte (v : Byte) : Intcon :=
  { gie := v.getLsbD 7
    eeie := v.getLsbD 6
    t0ie := v.getLsbD 5
    inte := v.getLsbD 4
    rbie := v.getLsbD 3
    t0if := v.getLsbD 2
    intf := v.getLsbD 1
    rbif := v.getLsbD 0 }

end Sys2Proof.Machine
end

