-- ==== Sys2Proof/Machine/Memory.lean ====
section
/-! DEFINITION. Sparse memories in one canonical form: addresses strictly rising, and in the data
memory no entry equal to what an unlisted address reads as. -/

namespace Sys2Proof.Machine

/-- The entry at an address, if one is listed. -/
def cellAt {α : Type} (a : Nat) (m : List (Nat × α)) : Option α :=
  match m with
  | [] => none
  | (b, v) :: rest => if b = a then some v else cellAt a rest

/-- Lists `v` at an address, keeping addresses strictly rising. -/
def setCell {α : Type} (a : Nat) (v : α) (m : List (Nat × α)) : List (Nat × α) :=
  match m with
  | [] => [(a, v)]
  | (b, u) :: rest =>
    if a < b then (a, v) :: (b, u) :: rest
    else if a = b then (a, v) :: rest
    else (b, u) :: setCell a v rest

/-- Unlists an address: every entry of it goes, so that the read law holds of any list. -/
def dropCell {α : Type} (a : Nat) (m : List (Nat × α)) : List (Nat × α) :=
  match m with
  | [] => []
  | (b, u) :: rest => if a = b then dropCell a rest else (b, u) :: dropCell a rest

/-- Every address of the list is above `a`. -/
def cellsAbove {α : Type} (a : Nat) (m : List (Nat × α)) : Bool :=
  m.all fun c => decide (a < c.1)

/-- Addresses strictly rise. -/
def cellsRise {α : Type} (m : List (Nat × α)) : Bool :=
  match m with
  | [] => true
  | (a, _) :: rest => cellsAbove a rest && cellsRise rest

/-- DESIGN CHOICE (log 11): what a general-purpose register that nothing has written reads as. -/
def unwrittenByte : Byte := 0x00#8

/-- Reads one general-purpose register (rule R27). -/
def readCell (a : Nat) (m : List Host.Cell) : Byte :=
  (cellAt a m).getD unwrittenByte

/-- Writes one general-purpose register, keeping the canonical form. -/
def writeCell (a : Nat) (v : Byte) (m : List Host.Cell) : List Host.Cell :=
  if v = unwrittenByte then dropCell a m else setCell a v m

/-- The canonical form of the data memory. -/
def Memory.wf (m : List Host.Cell) : Bool :=
  cellsRise m && m.all fun c => decide (c.2 ≠ unwrittenByte)

end Sys2Proof.Machine
end

