-- ==== Sys2Proof/Machine/Operands.lean ====
section
/-! DEFINITION. How an instruction reaches a file register: address resolution, and what a read and a
write of each register do (spec/20_memory.md rules R63 to R68, R72, spec/10_state.md rule R27). -/

namespace Sys2Proof.Machine

/-- The register at a resolved address (rule R27). -/
def State.fileReg (s : State) (a : DataAddr) : FileReg := regAt s.cfg a

/-- `Resolve(f)`: `RP0 ++ f`, or the value of FSR for f = 0 (rules R63 to R65). -/
def State.resolve (s : State) (f : FileAddr) : DataAddr :=
  if f = 0x00#7 then s.fsr else BitVec.ofBool s.status.rp0 ++ f

/-- The register that `x[f]` is (rules R12, R63): an instruction finds it once, before it writes
anything. -/
def State.operand (s : State) (f : FileAddr) : FileReg := s.fileReg (s.resolve f)

/-- The prescaler is assigned to the WDT: bit 3 of OPTION_REG (rule R36). -/
def State.psa (s : State) : Bool := s.optionReg.getLsbD 3

/-- `MemRead` of a register (rule R66). A port returns its pins (rule R68). -/
def State.readReg (s : State) (r : FileReg) : Byte :=
  match r with
  | .indf => 0x00#8
  | .tmr0 => s.tmr0
  | .pcl => (s.pc + 1#13).setWidth 8
  | .status => s.status.toByte s.cfg.statusLayout
  | .fsr => s.fsr
  | .portA => s.pinsA.setWidth 8
  | .portB => s.pinsB
  | .eedata => s.eedata
  | .eeadr => s.eeadr
  | .pclath => s.pclath.setWidth 8
  | .intcon => s.intcon.toByte
  | .optionReg => s.optionReg
  | .trisA => s.trisA.setWidth 8
  | .trisB => s.trisB
  | .eecon1 => s.eecon1.setWidth 8
  | .eecon2 => s.eecon2
  | .gpr n => readCell n s.ram
  | .unimplemented => 0x00#8

/-- A write of TMR0: it clears the prescaler if that is assigned to Timer0, whatever the instruction
(rule R72). -/
def State.writeTmr0 (s : State) (v : Byte) : State :=
  { s with tmr0 := v, prescaler := if s.psa then s.prescaler else 0x00#8 }

/-- `MemWrite` of a register (rule R66). `flagged` says that the instruction affects one of Z, DC, C,
which matters on STATUS alone (rule R33). A write of PCL sets the PC (rule R29). -/
def State.writeReg (s : State) (r : FileReg) (v : Byte) (flagged : Bool) : State :=
  match r with
  | .indf => s
  | .tmr0 => s.writeTmr0 v
  | .pcl => { s with pc := s.pclath ++ v }
  | .status => { s with status := s.status.write s.cfg.statusLayout flagged v }
  | .fsr => { s with fsr := v }
  | .portA => { s with latchA := v.setWidth 5 }
  | .portB => { s with latchB := v }
  | .eedata => { s with eedata := v }
  | .eeadr => { s with eeadr := v }
  | .pclath => { s with pclath := v.setWidth 5 }
  | .intcon => { s with intcon := Intcon.ofByte v }
  | .optionReg => { s with optionReg := v }
  | .trisA => { s with trisA := v.setWidth 5 }
  | .trisB => { s with trisB := v }
  | .eecon1 => { s with eecon1 := v.setWidth 5 }
  | .eecon2 => { s with eecon2 := v }
  | .gpr n => { s with ram := writeCell n v s.ram }
  | .unimplemented => s

end Sys2Proof.Machine
end

