-- ==== Sys2Proof/Machine/Ops.lean ====
section
/-! DEFINITION. The operations the instructions share: how an instruction ends, the return stack,
the destination of a result, interrupt entry and return, the Watchdog clear and the fetch. -/

namespace Sys2Proof.Machine

/-- The end of an instruction that neither transfers control nor skips: `pc + 1` modulo 2^13 (rule
R23), one cycle (rule R255). -/
def State.advance (s : State) : State :=
  { s with pc := s.pc + 1#13, cycles := s.cycles + 1 }

/-- The end of an instruction that skips the next one if `taken`: `pc + 2` modulo 2^13 (rule R23),
two cycles if it skips (rule R255). -/
def State.skipIf (s : State) (taken : Bool) : State :=
  { s with
    pc := if taken then s.pc + 2#13 else s.pc + 1#13
    cycles := s.cycles + if taken then 2 else 1 }

/-- The end of an instruction that transfers control: two cycles (rules R184, R255). -/
def State.jump (s : State) (t : ProgAddr) : State :=
  { s with pc := t, cycles := s.cycles + 2 }

/-- The end of an instruction that has written the register `r`: a write of PCL has set the PC and
takes two cycles, any other advances (rules R23, R29, R255). -/
def State.endWrite (s : State) (r : FileReg) : State :=
  { s with
    pc := if r = .pcl then s.pc else s.pc + 1#13
    cycles := s.cycles + if r = .pcl then 2 else 1 }

/-- Writes the arithmetic status bits of an instruction (rule R30). -/
def State.setFlags (s : State) (u : FlagUpdate) : State :=
  { s with status := u.apply s.status }

/-- W takes a value and the status bits are written (rules R120, R170). -/
def State.toW (s : State) (v : Byte) (u : FlagUpdate) : State :=
  ({ s with w := v }.setFlags u).advance

/-- `x[f] <- v` with `r` the register of f, then the status bits, then the PC (rule R120). -/
def State.toFile (s : State) (r : FileReg) (v : Byte) (u : FlagUpdate) : State :=
  ((s.writeReg r v u.affects).setFlags u).endWrite r

/-- `dest(d, f, v)` with `r` the register of f, then the status bits, then the PC (rule R120). -/
def State.toDest (s : State) (d : Dest) (r : FileReg) (v : Byte) (u : FlagUpdate) : State :=
  match d with
  | .w => s.toW v u
  | .f => s.toFile r v u

/-- `dest(d, f, v)`, then the skip on a zero result (rules R129, R131). A destination of PCL is given
no meaning (U10). -/
def State.toDestSkipZero (s : State) (d : Dest) (r : FileReg) (v : Byte) :
    Host.Outcome State Fault Refusal :=
  match d with
  | .w => .next ({ s with w := v }.skipIf (isZero v))
  | .f =>
    match r with
    | .pcl => .refused .skipWithPclDestination
    | _ => .next ((s.writeReg r v false).skipIf (isZero v))

/-- The target of CALL and GOTO, `PCLATH[4:3] ++ k` (rules R173, R175). -/
def State.target (s : State) (k : BitVec 11) : ProgAddr := s.pclath.extractLsb' 3 2 ++ k

/-- The next stack pointer, modulo `STACK_DEPTH` (rule R25). -/
def State.spUp (s : State) : Nat := (s.sp + 1) % s.cfg.stackDepth

/-- The last stack pointer, modulo `STACK_DEPTH` (rule R26). -/
def State.spDown (s : State) : Nat := (s.sp + s.cfg.stackDepth - 1) % s.cfg.stackDepth

/-- `Push(v)` (rule R25). -/
def State.push (s : State) (v : ProgAddr) : Except Refusal State :=
  let stored := { s with stack := s.stack.set s.sp v, sp := s.spUp }
  match s.cfg.stackPolicy with
  | .wrap => .ok stored
  | .fault =>
    if s.depth < s.cfg.stackDepth then .ok { stored with depth := s.depth + 1 }
    else .error .stackOverflow

/-- `TOS` (rule R26). The stack of a well-formed state has a cell there; a state without one reads 0. -/
def State.tos (s : State) : ProgAddr := s.stack.getD s.spDown 0x0000#13

/-- `Pop()` without the value, which is `TOS` (rule R26). -/
def State.pop (s : State) : Except Refusal State :=
  let popped := { s with sp := s.spDown }
  match s.cfg.stackPolicy with
  | .wrap => .ok popped
  | .fault =>
    if s.depth = 0 then .error .stackUnderflow else .ok { popped with depth := s.depth - 1 }

/-- The address after this instruction, `pc + 1` modulo 2^13 (rule R23). -/
def State.returnAddress (s : State) : ProgAddr := s.pc + 1#13

/-- Pushes `v` and goes to `t` (rules R173, R215). -/
def State.pushAndJump (s : State) (v t : ProgAddr) : Host.Outcome State Fault Refusal :=
  match s.push v with
  | .ok s' => .next (s'.jump t)
  | .error r => .refused r

/-- `pc <- Pop()` (rules R178 to R180). -/
def State.popAndJump (s : State) : Host.Outcome State Fault Refusal :=
  match s.pop with
  | .ok s' => .next (s'.jump s.tos)
  | .error r => .refused r

/-- Writes `GIE`, bit 7 of INTCON (rule R34). -/
def State.setGie (s : State) (b : Bool) : State :=
  { s with intcon := { s.intcon with gie := b } }

/-- INTERRUPT ENTRY, the machine's one exception (rule R215): GIE is cleared, the PC, the address of
the instruction that would have executed next, is pushed, and the PC is `INT_VECTOR`; two cycles
(rule R255). Nothing else changes. -/
def State.interruptEntry (s : State) : Host.Outcome State Fault Refusal :=
  (s.setGie false).pushAndJump s.pc s.cfg.intVector

/-- RETURN FROM INTERRUPT (rules R178, R217): the PC is popped and GIE is set. -/
def State.returnFromInterrupt (s : State) : Host.Outcome State Fault Refusal :=
  (s.setGie true).popAndJump

/-- The time that has passed, in instruction cycles: those spent and the time asleep (log 9). -/
def State.elapsed (s : State) : Nat := s.cycles + s.sleepTime

/-- `WDT <- 0`, and the prescaler count too if it is assigned to the WDT (rules R35, R174, R181). -/
def State.clearWdt (s : State) : State :=
  { s with
    wdt := 0x00#8
    prescaler := if s.psa then 0x00#8 else s.prescaler
    wdtClearedAt := s.elapsed }

/-- Writes TO and PD (rule R31). -/
def State.setToPd (s : State) (t p : Bool) : State :=
  { s with status := { s.status with toBit := t, pdBit := p } }

/-- `ProgRead(pc)`, at the address modulo `PROG_WORDS` (rule R62). A word that is not loaded is not
read: log 12. -/
def State.fetch (s : State) : Except Refusal ProgWord :=
  match cellAt (s.pc.toNat % s.cfg.progWords) s.prog with
  | some w => .ok w
  | none => .error (.fetchOutsideImage s.pc)

/-- `s` with a word loaded at a program address, modulo `PROG_WORDS`. No instruction does this (rule
R78): it is the load from outside of log 12. -/
def State.loadWord (s : State) (a : ProgAddr) (w : ProgWord) : State :=
  { s with prog := setCell (a.toNat % s.cfg.progWords) w s.prog }

end Sys2Proof.Machine
end

