-- ==== Sys2Proof/Machine/BitOriented.lean ====
section
/-! DEFINITION. The bit-oriented file register operations (spec/41_bit_oriented.md rules R160 to
R165). -/

namespace Sys2Proof.Machine

/-- `BCF f,b`: the register is read, bit b cleared and the register written whole (rule R161). -/
def execBcf (b : BitIndex) (f : FileAddr) (s : State) : Host.Outcome State Fault Refusal :=
  .next (s.toFile (s.operand f) (clearBit (s.readReg (s.operand f)) b) noFlags)

/-- `BSF f,b`: the register is read, bit b set and the register written whole (rule R162). -/
def execBsf (b : BitIndex) (f : FileAddr) (s : State) : Host.Outcome State Fault Refusal :=
  .next (s.toFile (s.operand f) (setBit (s.readReg (s.operand f)) b) noFlags)

/-- `BTFSC f,b`: skip if bit b is clear; nothing is written (rule R163). -/
def execBtfsc (b : BitIndex) (f : FileAddr) (s : State) : Host.Outcome State Fault Refusal :=
  .next (s.skipIf (!(s.readReg (s.operand f)).getLsbD b.toNat))

/-- `BTFSS f,b`: skip if bit b is set; nothing is written (rule R164). -/
def execBtfss (b : BitIndex) (f : FileAddr) (s : State) : Host.Outcome State Fault Refusal :=
  .next (s.skipIf ((s.readReg (s.operand f)).getLsbD b.toNat))

end Sys2Proof.Machine
end

