-- ==== Sys2Proof/Machine/ByteOriented.lean ====
section
/-! DEFINITION. The byte-oriented file register operations (spec/40_byte_oriented.md rules R120 to
R142). Each resolves f once, before it writes anything (rule R63). -/

namespace Sys2Proof.Machine

/-- `ADDWF f,d`: W plus f; C, DC, Z (rule R123). -/
def execAddwf (d : Dest) (f : FileAddr) (s : State) : Host.Outcome State Fault Refusal :=
  let r := add8 s.w (s.readReg (s.operand f))
  .next (s.toDest d (s.operand f) r.value (aluFlags r))

/-- `ANDWF f,d`: W and f, bitwise; Z (rule R124). -/
def execAndwf (d : Dest) (f : FileAddr) (s : State) : Host.Outcome State Fault Refusal :=
  let r := s.w &&& s.readReg (s.operand f)
  .next (s.toDest d (s.operand f) r (zFlag r))

/-- `COMF f,d`: the one's complement of f; Z (rule R127). -/
def execComf (d : Dest) (f : FileAddr) (s : State) : Host.Outcome State Fault Refusal :=
  let r := ~~~s.readReg (s.operand f)
  .next (s.toDest d (s.operand f) r (zFlag r))

/-- `DECF f,d`: f minus 1; Z (rule R128). -/
def execDecf (d : Dest) (f : FileAddr) (s : State) : Host.Outcome State Fault Refusal :=
  let r := s.readReg (s.operand f) - 1#8
  .next (s.toDest d (s.operand f) r (zFlag r))

/-- `DECFSZ f,d`: f minus 1, skip on a zero result; no status bit (rule R129). -/
def execDecfsz (d : Dest) (f : FileAddr) (s : State) : Host.Outcome State Fault Refusal :=
  s.toDestSkipZero d (s.operand f) (s.readReg (s.operand f) - 1#8)

/-- `INCF f,d`: f plus 1; Z (rule R130). -/
def execIncf (d : Dest) (f : FileAddr) (s : State) : Host.Outcome State Fault Refusal :=
  let r := s.readReg (s.operand f) + 1#8
  .next (s.toDest d (s.operand f) r (zFlag r))

/-- `INCFSZ f,d`: f plus 1, skip on a zero result; no status bit (rule R131). -/
def execIncfsz (d : Dest) (f : FileAddr) (s : State) : Host.Outcome State Fault Refusal :=
  s.toDestSkipZero d (s.operand f) (s.readReg (s.operand f) + 1#8)

/-- `IORWF f,d`: W or f, bitwise; Z (rule R132). -/
def execIorwf (d : Dest) (f : FileAddr) (s : State) : Host.Outcome State Fault Refusal :=
  let r := s.w ||| s.readReg (s.operand f)
  .next (s.toDest d (s.operand f) r (zFlag r))

/-- `MOVF f,d`: f; Z (rule R133). -/
def execMovf (d : Dest) (f : FileAddr) (s : State) : Host.Outcome State Fault Refusal :=
  let r := s.readReg (s.operand f)
  .next (s.toDest d (s.operand f) r (zFlag r))

/-- `RLF f,d`: f rotated left through C; C (rule R136). -/
def execRlf (d : Dest) (f : FileAddr) (s : State) : Host.Outcome State Fault Refusal :=
  let v := s.readReg (s.operand f)
  .next (s.toDest d (s.operand f) (rotateLeft v s.status.c) (cFlag (v.getLsbD 7)))

/-- `RRF f,d`: f rotated right through C; C (rule R137). -/
def execRrf (d : Dest) (f : FileAddr) (s : State) : Host.Outcome State Fault Refusal :=
  let v := s.readReg (s.operand f)
  .next (s.toDest d (s.operand f) (rotateRight v s.status.c) (cFlag (v.getLsbD 0)))

/-- `SUBWF f,d`: f minus W; C, DC, Z (rule R138). -/
def execSubwf (d : Dest) (f : FileAddr) (s : State) : Host.Outcome State Fault Refusal :=
  let r := sub8 (s.readReg (s.operand f)) s.w
  .next (s.toDest d (s.operand f) r.value (aluFlags r))

/-- `SWAPF f,d`: the nibbles of f exchanged; no status bit (rule R139). -/
def execSwapf (d : Dest) (f : FileAddr) (s : State) : Host.Outcome State Fault Refusal :=
  let v := s.readReg (s.operand f)
  .next (s.toDest d (s.operand f) (swapNibbles v) noFlags)

/-- `XORWF f,d`: W exclusive or f, bitwise; Z (rule R140). -/
def execXorwf (d : Dest) (f : FileAddr) (s : State) : Host.Outcome State Fault Refusal :=
  let r := s.w ^^^ s.readReg (s.operand f)
  .next (s.toDest d (s.operand f) r (zFlag r))

/-- `CLRF f`: f is cleared; Z is set (rule R125). -/
def execClrf (f : FileAddr) (s : State) : Host.Outcome State Fault Refusal :=
  .next (s.toFile (s.operand f) 0x00#8 (zFlag 0x00#8))

/-- `CLRW`: W is cleared; Z is set (rule R126). -/
def execClrw (s : State) : Host.Outcome State Fault Refusal :=
  .next (s.toW 0x00#8 (zFlag 0x00#8))

/-- `MOVWF f`: W is stored in f; no status bit (rule R134). -/
def execMovwf (f : FileAddr) (s : State) : Host.Outcome State Fault Refusal :=
  .next (s.toFile (s.operand f) s.w noFlags)

/-- `NOP` (rule R135). -/
def execNop (s : State) : Host.Outcome State Fault Refusal :=
  .next s.advance

end Sys2Proof.Machine
end

