-- ==== Sys2Proof/Machine/LiteralControl.lean ====
section
/-! DEFINITION. The literal and control operations (spec/42_literal_control.md rules R170 to R185). -/

namespace Sys2Proof.Machine

/-- `ADDLW k`: W plus k; C, DC, Z (rule R171). -/
def execAddlw (k : Byte) (s : State) : Host.Outcome State Fault Refusal :=
  let r := add8 s.w k
  .next (s.toW r.value (aluFlags r))

/-- `ANDLW k`: W and k, bitwise; Z (rule R172). -/
def execAndlw (k : Byte) (s : State) : Host.Outcome State Fault Refusal :=
  let r := s.w &&& k
  .next (s.toW r (zFlag r))

/-- `CALL k`: `pc + 1` is pushed; the PC is `PCLATH[4:3] ++ k` (rule R173). -/
def execCall (k : BitVec 11) (s : State) : Host.Outcome State Fault Refusal :=
  s.pushAndJump s.returnAddress (s.target k)

/-- `CLRWDT`: the WDT and its prescaler are cleared; TO and PD are set (rule R174). With the Watchdog
disabled it only sets TO and PD (rule R221, log 19). -/
def execClrwdt (s : State) : Host.Outcome State Fault Refusal :=
  let t := if s.cfg.wdtEnabled then s.advance.clearWdt else s.advance
  .next (t.setToPd true true)

/-- `GOTO k`: the PC is `PCLATH[4:3] ++ k` (rule R175). -/
def execGoto (k : BitVec 11) (s : State) : Host.Outcome State Fault Refusal :=
  .next (s.jump (s.target k))

/-- `IORLW k`: W or k, bitwise; Z (rule R176). -/
def execIorlw (k : Byte) (s : State) : Host.Outcome State Fault Refusal :=
  let r := s.w ||| k
  .next (s.toW r (zFlag r))

/-- `MOVLW k`: W is k; no status bit (rule R177). -/
def execMovlw (k : Byte) (s : State) : Host.Outcome State Fault Refusal :=
  .next (s.toW k noFlags)

/-- `RETFIE`: the return from interrupt (rule R178). -/
def execRetfie (s : State) : Host.Outcome State Fault Refusal :=
  s.returnFromInterrupt

/-- `RETLW k`: W is k and the PC is popped (rule R179). -/
def execRetlw (k : Byte) (s : State) : Host.Outcome State Fault Refusal :=
  State.popAndJump { s with w := k }

/-- `RETURN`: the PC is popped (rule R180). -/
def execReturn (s : State) : Host.Outcome State Fault Refusal :=
  s.popAndJump

/-- `SLEEP`: the WDT and its prescaler are cleared, TO is set, PD is cleared, and the core sleeps at
the next instruction (rule R181). -/
def execSleep (s : State) : Host.Outcome State Fault Refusal :=
  .next { s.advance.clearWdt.setToPd true false with sleeping := true }

/-- `SUBLW k`: k minus W; C, DC, Z (rule R182). -/
def execSublw (k : Byte) (s : State) : Host.Outcome State Fault Refusal :=
  let r := sub8 k s.w
  .next (s.toW r.value (aluFlags r))

/-- `XORLW k`: W exclusive or k, bitwise; Z (rule R183). -/
def execXorlw (k : Byte) (s : State) : Host.Outcome State Fault Refusal :=
  let r := s.w ^^^ k
  .next (s.toW r (zFlag r))

end Sys2Proof.Machine
end

