-- ==== Sys2Proof/Machine/OptionTris.lean ====
section
/-! DEFINITION. OPTION and TRIS, the compatibility instructions (spec/43_option_tris.md rules R200 to
R203). Neither the bank bit nor FSR takes part. -/

namespace Sys2Proof.Machine

/-- `OPTION`: W is stored in the OPTION register, 0x81 in the default map (rule R201). -/
def execOption (s : State) : Host.Outcome State Fault Refusal :=
  .next (s.toFile .optionReg s.w noFlags)

/-- `TRIS f`: W is stored in TRISA for f = 5 and in TRISB for f = 6, 0x85 and 0x86 in the default map;
this hardware has no third port (rule R202). -/
def execTris (f : BitVec 3) (s : State) : Host.Outcome State Fault Refusal :=
  match f.toNat with
  | 5 => .next (s.toFile .trisA s.w noFlags)
  | 6 => .next (s.toFile .trisB s.w noFlags)
  | _ => .refused (.trisNoSuchPort f)

end Sys2Proof.Machine
end

