-- ==== Sys2Proof/Machine/Events.lean ====
section
/-! DEFINITION. What the environment does at a step boundary: resets, the Watchdog time-out, the
interrupt flags, Timer0, sleep and wake-up (spec/60_exceptions.md rules R212 to R229,
spec/70_reset_and_hazards.md rules R240 to R242). -/

namespace Sys2Proof.Machine

/-- No flag is raised. -/
def noIrq : IrqFlags := { intf := false, t0if := false, rbif := false, eeif := false }

/-- The input of a silent environment: no event, and the pins keep their levels (log 5, 6). -/
def State.quietInput (s : State) : Input :=
  { reset := none, wdtTimeout := false, irq := noIrq, pinsA := s.pinsA, pinsB := s.pinsB,
    timer0 := 0, wdtTicks := 0x00#8, prescalerTicks := 0x00#8, sleepCycles := 0 }

/-- The input of this boundary: the head of the list, or silence when the list is empty (log 5). -/
def State.boundaryInput (s : State) : Input :=
  match s.inputs with
  | [] => s.quietInput
  | i :: _ => i

/-- The input is consumed and the pins take its levels (rule R68). -/
def State.takeInput (s : State) : State :=
  { s with
    inputs := s.inputs.tail
    pinsA := s.boundaryInput.pinsA
    pinsB := s.boundaryInput.pinsB }

/-- The kinds of reset (rule R240). -/
inductive ResetKind where
  | powerOn (draw : PowerOnDraw)
  | mclrNormal
  | mclrSleep
  | wdt
deriving DecidableEq, Repr

/-- The kind of a requested reset: MCLR during SLEEP is another kind than MCLR in normal operation
(rule R240). -/
def State.resetKind (s : State) (r : ResetRequest) : ResetKind :=
  match r with
  | .powerOn draw => .powerOn draw
  | .mclr => if s.sleeping then .mclrSleep else .mclrNormal

/-- The general-purpose registers of a draw: those the map names, in the canonical form. -/
def loadGprs (p : Params) (cells : List Host.Cell) : List Host.Cell :=
  match cells with
  | [] => []
  | (n, v) :: rest => if hasGpr p n then writeCell n v (loadGprs p rest) else loadGprs p rest

/-- The stack cells of a draw: `n` of them, the missing ones 0. -/
def fitStack (n : Nat) (cells : List ProgAddr) : List ProgAddr :=
  (List.range n).map fun i => cells.getD i 0x0000#13

/-- What every reset writes (rule R241, the rows that are alike in the four reset columns): the PC,
bank 0, PCLATH, INTCON but for RBIF, OPTION_REG, the TRIS registers, the WDT counter, the prescaler
count, `depth` and `sleeping`. EECON1 but for WRERR is log 14. -/
def State.resetCommon (s : State) : State :=
  { s with
    pc := s.cfg.resetVector
    depth := 0
    status := { s.status with irp := false, rp1 := false, rp0 := false }
    pclath := 0x00#5
    intcon :=
      { gie := false, eeie := false, t0ie := false, inte := false, rbie := false, t0if := false,
        intf := false, rbif := s.intcon.rbif }
    optionReg := 0xFF#8
    trisA := 0x1F#5
    trisB := 0xFF#8
    prescaler := 0x00#8
    wdt := 0x00#8
    wdtClearedAt := s.elapsed
    eecon1 := s.eecon1 &&& 0b01000#5
    sleeping := false }

/-- What a power-on leaves unknown takes the values of the draw (rules R44, R244). -/
def State.applyDraw (s : State) (x : PowerOnDraw) : State :=
  { s with
    w := x.w
    stack := fitStack s.cfg.stackDepth x.stack
    sp := x.sp % s.cfg.stackDepth
    status := { s.status with z := x.z, dc := x.dc, c := x.c }
    intcon := { s.intcon with rbif := x.rbif }
    latchA := x.latchA
    latchB := x.latchB
    tmr0 := x.tmr0
    fsr := x.fsr
    ram := loadGprs s.cfg x.gpr
    eedata := x.eedata
    eeadr := x.eeadr
    eecon1 := BitVec.ofBool false ++ BitVec.ofBool x.wrerr ++ 0b000#3
    eecon2 := x.eecon2 }

/-- The state after a reset (rule R241). -/
def State.applyReset (s : State) (k : ResetKind) : State :=
  match k with
  | .powerOn draw => (s.resetCommon.applyDraw draw).setToPd true true
  | .mclrNormal => s.resetCommon
  | .mclrSleep => s.resetCommon.setToPd true false
  | .wdt => s.resetCommon.setToPd false true

/-- The core leaves sleep (rule R227). -/
def State.wakeUp (s : State) : State := { s with sleeping := false }

/-- A Watchdog time-out: a reset, or, asleep, a wake-up that goes on after the SLEEP (rule R221), with
the WDT counter and the prescaler count 0 (rule R241, log 13). -/
def State.timeOut (s : State) : State :=
  if s.sleeping then
    { (s.setToPd false false).wakeUp with
      wdt := 0x00#8, prescaler := 0x00#8, wdtClearedAt := s.elapsed }
  else s.applyReset .wdt

/-- The flags of `IRQ` are set, in INTCON and, for EEIF, in EECON1 bit 4, whether or not they are
enabled (rule R212). -/
def State.raiseFlags (s : State) (q : IrqFlags) : State :=
  { s with
    intcon :=
      { s.intcon with
        t0if := s.intcon.t0if || q.t0if
        intf := s.intcon.intf || q.intf
        rbif := s.intcon.rbif || q.rbif }
    eecon1 := if q.eeif then s.eecon1 ||| 0b10000#5 else s.eecon1 }

/-- Timer0 advances, modulo 256, and a wrap sets T0IF; asleep it is frozen (rules R222, R226, log
7). -/
def State.advanceTimer0 (s : State) (n : Nat) : State :=
  if s.sleeping then s
  else
    { s with
      tmr0 := s.tmr0 + BitVec.ofNat 8 n
      intcon := { s.intcon with t0if := s.intcon.t0if || decide (256 ≤ s.tmr0.toNat + n) } }

/-- The prescaler has a clock: the WDT's if it is assigned to an enabled WDT, and otherwise Timer0's,
which stands still asleep (rules R36, R226, log 8). -/
def State.prescalerRuns (s : State) : Bool := if s.psa then s.cfg.wdtEnabled else !s.sleeping

/-- The hidden counts advance (rules R35, R42, log 8), each only while it has a clock: a disabled
Watchdog does not run (rules R221, R226). -/
def State.advanceCounts (s : State) (wdtTicks prescalerTicks : Byte) : State :=
  { s with
    wdt := if s.cfg.wdtEnabled then s.wdt + wdtTicks else s.wdt
    prescaler := if s.prescalerRuns then s.prescaler + prescalerTicks else s.prescaler }

/-- The time asleep is counted (log 9). -/
def State.sleepFor (s : State) (n : Nat) : State :=
  { s with sleepTime := if s.sleeping then s.sleepTime + n else s.sleepTime }

/-- The environment devices act (rule R229 item 2). -/
def State.devices (s : State) (i : Input) : State :=
  (((s.raiseFlags i.irq).advanceTimer0 i.timer0).advanceCounts i.wdtTicks i.prescalerTicks).sleepFor
    i.sleepCycles

/-- EEIF, bit 4 of EECON1 (rule R212). -/
def State.eeif (s : State) : Bool := s.eecon1.getLsbD 4

/-- A flag that wakes the core is set and its enable bit is set: all but T0IF (rule R227 item 3). -/
def State.wakes (s : State) : Bool :=
  (s.intcon.inte && s.intcon.intf) || (s.intcon.rbie && s.intcon.rbif) || (s.intcon.eeie && s.eeif)

/-- `Pending` (rule R213). -/
def State.pending (s : State) : Bool :=
  (s.intcon.inte && s.intcon.intf) || (s.intcon.t0ie && s.intcon.t0if) ||
    (s.intcon.rbie && s.intcon.rbif) || (s.intcon.eeie && s.eeif)

/-- A time-out input takes effect: the Watchdog is enabled and `WDT_MIN_CYCLES` have passed since it was
cleared (rule R221, log 9). -/
def State.wdtExpires (s : State) (i : Input) : Bool :=
  i.wdtTimeout && s.cfg.wdtEnabled && decide (s.cfg.wdtMinCycles ≤ s.elapsed - s.wdtClearedAt)

/-- What a step does once the input is consumed, no reset is requested and the devices have acted
(rule R229). -/
inductive Action where
  | timeOut
  | stayAsleep
  | wake
  | interrupt
  | run
deriving DecidableEq, Repr

/-- The order of rule R229, items 3 to 6 (rule R214): a Watchdog time-out, sleep and wake-up, an
interrupt, an instruction. -/
def State.action (s : State) (i : Input) : Action :=
  if s.wdtExpires i then .timeOut
  else if s.sleeping then (if s.wakes then .wake else .stayAsleep)
  else if s.intcon.gie && s.pending then .interrupt
  else .run

end Sys2Proof.Machine
end

