-- ==== Sys2Proof/Machine/Boundary.lean ====
section
/-! DEFINITION. The step relation (spec/60_exceptions.md rule R229). -/

namespace Sys2Proof.Machine

/-- The word of an opcode-table row, as program memory holds it: bits 13:0 (rule R69). -/
def tableWord (nbits w : Nat) : ProgWord := BitVec.ofNat 14 (w % 2 ^ nbits)

/-- Fetch, decode and execute one instruction (rule R229 item 6); an unassigned word does what
`ILLEGAL_POLICY` says (rule R106). -/
def State.runInstruction (s : State) : Host.Outcome State Fault Refusal :=
  match s.fetch with
  | .error r => .refused r
  | .ok w =>
    match decode w with
    | .ok i => exec i s
    | .error _ =>
      match s.cfg.illegalPolicy with
      | .refuse => .refused (.unassignedEncoding w)

/-- The step once the devices have acted (rule R229 items 3 to 6). -/
def State.act (s : State) (a : Action) : Host.Outcome State Fault Refusal :=
  match a with
  | .timeOut => .next s.timeOut
  | .stayAsleep => .next s
  | .wake => s.wakeUp.runInstruction
  | .interrupt => s.interruptEntry
  | .run => s.runInstruction

/-- One step (rule R229): the input of this boundary is consumed; a requested reset is applied and
ends the step; otherwise the devices act and the step does the first of rule R229's items 3 to 6
that applies. -/
def State.boundaryStep (s : State) : Host.Outcome State Fault Refusal :=
  let i := s.boundaryInput
  let t := s.takeInput
  match i.reset with
  | some r => .next (t.applyReset (t.resetKind r))
  | none => (t.devices i).act ((t.devices i).action i)

end Sys2Proof.Machine
end

