-- ==== Sys2Proof/Machine/Step.lean ====
section
/-! DEFINITION. The machine's step. -/

namespace Sys2Proof.Machine

/-- One step of the machine (rule R229). -/
def step (s : State) : Host.Outcome State Fault Refusal := s.boundaryStep

/-- The word of an opcode-table row loaded where the next step fetches, the PC modulo `PROG_WORDS`.
With the environment silent and the core awake, the next step runs it (log 12). -/
def State.withFetchWord (s : State) (nbits w : Nat) : State :=
  s.loadWord s.pc (tableWord nbits w)

end Sys2Proof.Machine
end

