-- ==== Sys2Proof/Safety.lean ====
section
/-! DEFINITION. The terms in which claims about the machine are stated: the tables of the spec that
range over all instructions, the well-formed states, and the states in which a step does one thing
or another. -/

namespace Sys2Proof.Machine

/-- The file register an instruction stores to, if it stores to one: the one its f resolves to with
d = 1, and always for CLRF, MOVWF, BCF and BSF (rule R21); OPTION and TRIS store to theirs (rules
R201, R202). -/
def State.storeReg (s : State) (i : Instr) : Option FileReg :=
  match i with
  | .addwf .w _ => none
  | .addwf .f f => some (s.fileReg (s.resolve f))
  | .andwf .w _ => none
  | .andwf .f f => some (s.fileReg (s.resolve f))
  | .clrf f => some (s.fileReg (s.resolve f))
  | .clrw => none
  | .comf .w _ => none
  | .comf .f f => some (s.fileReg (s.resolve f))
  | .decf .w _ => none
  | .decf .f f => some (s.fileReg (s.resolve f))
  | .decfsz .w _ => none
  | .decfsz .f f => some (s.fileReg (s.resolve f))
  | .incf .w _ => none
  | .incf .f f => some (s.fileReg (s.resolve f))
  | .incfsz .w _ => none
  | .incfsz .f f => some (s.fileReg (s.resolve f))
  | .iorwf .w _ => none
  | .iorwf .f f => some (s.fileReg (s.resolve f))
  | .movf .w _ => none
  | .movf .f f => some (s.fileReg (s.resolve f))
  | .movwf f => some (s.fileReg (s.resolve f))
  | .nop => none
  | .rlf .w _ => none
  | .rlf .f f => some (s.fileReg (s.resolve f))
  | .rrf .w _ => none
  | .rrf .f f => some (s.fileReg (s.resolve f))
  | .subwf .w _ => none
  | .subwf .f f => some (s.fileReg (s.resolve f))
  | .swapf .w _ => none
  | .swapf .f f => some (s.fileReg (s.resolve f))
  | .xorwf .w _ => none
  | .xorwf .f f => some (s.fileReg (s.resolve f))
  | .bcf _ f => some (s.fileReg (s.resolve f))
  | .bsf _ f => some (s.fileReg (s.resolve f))
  | .btfsc _ _ => none
  | .btfss _ _ => none
  | .addlw _ => none
  | .andlw _ => none
  | .call _ => none
  | .clrwdt => none
  | .goto _ => none
  | .iorlw _ => none
  | .movlw _ => none
  | .retfie => none
  | .retlw _ => none
  | .ret => none
  | .sleep => none
  | .sublw _ => none
  | .xorlw _ => none
  | .option => some .optionReg
  | .tris f => if f = 5#3 then some .trisA else if f = 6#3 then some .trisB else none

/-- The instructions that write W (rule R20). -/
def writesW (i : Instr) : Bool :=
  match i with
  | .addwf .w _ => true
  | .addwf .f _ => false
  | .andwf .w _ => true
  | .andwf .f _ => false
  | .clrf _ => false
  | .clrw => true
  | .comf .w _ => true
  | .comf .f _ => false
  | .decf .w _ => true
  | .decf .f _ => false
  | .decfsz .w _ => true
  | .decfsz .f _ => false
  | .incf .w _ => true
  | .incf .f _ => false
  | .incfsz .w _ => true
  | .incfsz .f _ => false
  | .iorwf .w _ => true
  | .iorwf .f _ => false
  | .movf .w _ => true
  | .movf .f _ => false
  | .movwf _ => false
  | .nop => false
  | .rlf .w _ => true
  | .rlf .f _ => false
  | .rrf .w _ => true
  | .rrf .f _ => false
  | .subwf .w _ => true
  | .subwf .f _ => false
  | .swapf .w _ => true
  | .swapf .f _ => false
  | .xorwf .w _ => true
  | .xorwf .f _ => false
  | .bcf _ _ => false
  | .bsf _ _ => false
  | .btfsc _ _ => false
  | .btfss _ _ => false
  | .addlw _ => true
  | .andlw _ => true
  | .call _ => false
  | .clrwdt => false
  | .goto _ => false
  | .iorlw _ => true
  | .movlw _ => true
  | .retfie => false
  | .retlw _ => true
  | .ret => false
  | .sleep => false
  | .sublw _ => true
  | .xorlw _ => true
  | .option => false
  | .tris _ => false

/-- The instructions whose "Status Affected" entry lists C (rule R30). -/
def affectsC (i : Instr) : Bool :=
  match i with
  | .addwf _ _ => true
  | .andwf _ _ => false
  | .clrf _ => false
  | .clrw => false
  | .comf _ _ => false
  | .decf _ _ => false
  | .decfsz _ _ => false
  | .incf _ _ => false
  | .incfsz _ _ => false
  | .iorwf _ _ => false
  | .movf _ _ => false
  | .movwf _ => false
  | .nop => false
  | .rlf _ _ => true
  | .rrf _ _ => true
  | .subwf _ _ => true
  | .swapf _ _ => false
  | .xorwf _ _ => false
  | .bcf _ _ => false
  | .bsf _ _ => false
  | .btfsc _ _ => false
  | .btfss _ _ => false
  | .addlw _ => true
  | .andlw _ => false
  | .call _ => false
  | .clrwdt => false
  | .goto _ => false
  | .iorlw _ => false
  | .movlw _ => false
  | .retfie => false
  | .retlw _ => false
  | .ret => false
  | .sleep => false
  | .sublw _ => true
  | .xorlw _ => false
  | .option => false
  | .tris _ => false

/-- The instructions whose "Status Affected" entry lists DC (rule R30). -/
def affectsDC (i : Instr) : Bool :=
  match i with
  | .addwf _ _ => true
  | .andwf _ _ => false
  | .clrf _ => false
  | .clrw => false
  | .comf _ _ => false
  | .decf _ _ => false
  | .decfsz _ _ => false
  | .incf _ _ => false
  | .incfsz _ _ => false
  | .iorwf _ _ => false
  | .movf _ _ => false
  | .movwf _ => false
  | .nop => false
  | .rlf _ _ => false
  | .rrf _ _ => false
  | .subwf _ _ => true
  | .swapf _ _ => false
  | .xorwf _ _ => false
  | .bcf _ _ => false
  | .bsf _ _ => false
  | .btfsc _ _ => false
  | .btfss _ _ => false
  | .addlw _ => true
  | .andlw _ => false
  | .call _ => false
  | .clrwdt => false
  | .goto _ => false
  | .iorlw _ => false
  | .movlw _ => false
  | .retfie => false
  | .retlw _ => false
  | .ret => false
  | .sleep => false
  | .sublw _ => true
  | .xorlw _ => false
  | .option => false
  | .tris _ => false

/-- The instructions whose "Status Affected" entry lists Z (rule R30). -/
def affectsZ (i : Instr) : Bool :=
  match i with
  | .addwf _ _ => true
  | .andwf _ _ => true
  | .clrf _ => true
  | .clrw => true
  | .comf _ _ => true
  | .decf _ _ => true
  | .decfsz _ _ => false
  | .incf _ _ => true
  | .incfsz _ _ => false
  | .iorwf _ _ => true
  | .movf _ _ => true
  | .movwf _ => false
  | .nop => false
  | .rlf _ _ => false
  | .rrf _ _ => false
  | .subwf _ _ => true
  | .swapf _ _ => false
  | .xorwf _ _ => true
  | .bcf _ _ => false
  | .bsf _ _ => false
  | .btfsc _ _ => false
  | .btfss _ _ => false
  | .addlw _ => true
  | .andlw _ => true
  | .call _ => false
  | .clrwdt => false
  | .goto _ => false
  | .iorlw _ => true
  | .movlw _ => false
  | .retfie => false
  | .retlw _ => false
  | .ret => false
  | .sleep => false
  | .sublw _ => true
  | .xorlw _ => true
  | .option => false
  | .tris _ => false

/-- The instructions that skip on a condition (rule R184). -/
def skips (i : Instr) : Bool :=
  match i with
  | .addwf _ _ => false
  | .andwf _ _ => false
  | .clrf _ => false
  | .clrw => false
  | .comf _ _ => false
  | .decf _ _ => false
  | .decfsz _ _ => true
  | .incf _ _ => false
  | .incfsz _ _ => true
  | .iorwf _ _ => false
  | .movf _ _ => false
  | .movwf _ => false
  | .nop => false
  | .rlf _ _ => false
  | .rrf _ _ => false
  | .subwf _ _ => false
  | .swapf _ _ => false
  | .xorwf _ _ => false
  | .bcf _ _ => false
  | .bsf _ _ => false
  | .btfsc _ _ => true
  | .btfss _ _ => true
  | .addlw _ => false
  | .andlw _ => false
  | .call _ => false
  | .clrwdt => false
  | .goto _ => false
  | .iorlw _ => false
  | .movlw _ => false
  | .retfie => false
  | .retlw _ => false
  | .ret => false
  | .sleep => false
  | .sublw _ => false
  | .xorlw _ => false
  | .option => false
  | .tris _ => false

/-- The instructions that transfer control always (rule R184). -/
def transfers (i : Instr) : Bool :=
  match i with
  | .addwf _ _ => false
  | .andwf _ _ => false
  | .clrf _ => false
  | .clrw => false
  | .comf _ _ => false
  | .decf _ _ => false
  | .decfsz _ _ => false
  | .incf _ _ => false
  | .incfsz _ _ => false
  | .iorwf _ _ => false
  | .movf _ _ => false
  | .movwf _ => false
  | .nop => false
  | .rlf _ _ => false
  | .rrf _ _ => false
  | .subwf _ _ => false
  | .swapf _ _ => false
  | .xorwf _ _ => false
  | .bcf _ _ => false
  | .bsf _ _ => false
  | .btfsc _ _ => false
  | .btfss _ _ => false
  | .addlw _ => false
  | .andlw _ => false
  | .call _ => true
  | .clrwdt => false
  | .goto _ => true
  | .iorlw _ => false
  | .movlw _ => false
  | .retfie => true
  | .retlw _ => true
  | .ret => true
  | .sleep => false
  | .sublw _ => false
  | .xorlw _ => false
  | .option => false
  | .tris _ => false

/-- The instructions that push or pop (rules R24, R184). -/
def usesStack (i : Instr) : Bool :=
  match i with
  | .addwf _ _ => false
  | .andwf _ _ => false
  | .clrf _ => false
  | .clrw => false
  | .comf _ _ => false
  | .decf _ _ => false
  | .decfsz _ _ => false
  | .incf _ _ => false
  | .incfsz _ _ => false
  | .iorwf _ _ => false
  | .movf _ _ => false
  | .movwf _ => false
  | .nop => false
  | .rlf _ _ => false
  | .rrf _ _ => false
  | .subwf _ _ => false
  | .swapf _ _ => false
  | .xorwf _ _ => false
  | .bcf _ _ => false
  | .bsf _ _ => false
  | .btfsc _ _ => false
  | .btfss _ _ => false
  | .addlw _ => false
  | .andlw _ => false
  | .call _ => true
  | .clrwdt => false
  | .goto _ => false
  | .iorlw _ => false
  | .movlw _ => false
  | .retfie => true
  | .retlw _ => true
  | .ret => true
  | .sleep => false
  | .sublw _ => false
  | .xorlw _ => false
  | .option => false
  | .tris _ => false

/-- No two bits of STATUS have the same place. -/
def layoutDistinct (l : StatusLayout) : Bool :=
  decide [l.irp, l.rp1, l.rp0, l.toBit, l.pdBit, l.z, l.dc, l.c].Nodup

/-- The parameters make a machine: it has program memory and a stack, and each bit of STATUS a place
of its own. -/
def paramsWf (p : Params) : Bool :=
  decide (0 < p.progWords) && decide (0 < p.stackDepth) && layoutDistinct p.statusLayout

/-- The stack has `STACK_DEPTH` cells and the pointer is one of them (rule R25). -/
def State.stackWf (s : State) : Bool :=
  decide (s.stack.length = s.cfg.stackDepth) && decide (s.sp < s.cfg.stackDepth)

/-- The well-formed states: both memories in their canonical form and within what the parameters give
them, a stack of `STACK_DEPTH` cells, no more live entries counted than it has, and no clear of the
WDT in the future. -/
def State.wf (s : State) : Bool :=
  paramsWf s.cfg && Memory.wf s.ram && (s.ram.all fun c => hasGpr s.cfg c.1) &&
    cellsRise s.prog && (s.prog.all fun c => decide (c.1 < s.cfg.progWords)) &&
    s.stackWf && decide (s.depth ≤ s.cfg.stackDepth) &&
    decide (s.wdtClearedAt ≤ s.cycles + s.sleepTime)

/-- The state once the input of this boundary is consumed and the devices have acted (rule R229 item
2): the state the rest of the step works on. -/
def State.boundary (s : State) : State := s.takeInput.devices s.boundaryInput

/-- `WDT_MIN_CYCLES` have passed since the WDT was cleared (rule R221, log 9). -/
def State.WdtMayTimeOut (s : State) : Prop :=
  s.cfg.wdtMinCycles ≤ s.cycles + s.boundary.sleepTime - s.wdtClearedAt

/-- A Watchdog time-out takes effect at this boundary: the environment gives one, the Watchdog is
enabled and its least time has passed (rule R221). -/
def State.TimesOut (s : State) : Prop :=
  s.boundaryInput.wdtTimeout = true ∧ s.cfg.wdtEnabled = true ∧ s.WdtMayTimeOut

/-- Neither a reset is requested at this boundary nor does a Watchdog time-out take effect (rule R229
items 1 and 3). -/
def State.Undisturbed (s : State) : Prop := s.boundaryInput.reset = none ∧ ¬ s.TimesOut

/-- An enable bit and its flag are both set, for one of the sources that wake the core: INTF, RBIF
and EEIF (rule R227 item 3). -/
def State.WakeFlag (s : State) : Prop :=
  (s.intcon.inte = true ∧ s.intcon.intf = true) ∨ (s.intcon.rbie = true ∧ s.intcon.rbif = true) ∨
    (s.intcon.eeie = true ∧ s.eecon1.getLsbD 4 = true)

/-- `Pending = 1` (rule R213). -/
def State.PendingFlag (s : State) : Prop :=
  s.WakeFlag ∨ (s.intcon.t0ie = true ∧ s.intcon.t0if = true)

/-- The step takes an interrupt (rule R229 item 5). -/
def State.TakesInterrupt (s : State) : Prop :=
  s.Undisturbed ∧ s.sleeping = false ∧ s.boundary.intcon.gie = true ∧ s.boundary.PendingFlag

/-- The step runs an instruction: the core is awake with no interrupt to take (rule R229 item 6), or
it wakes up (item 4b). -/
def State.RunsInstruction (s : State) : Prop :=
  s.Undisturbed ∧
    ((s.sleeping = true ∧ s.boundary.WakeFlag) ∨
      (s.sleeping = false ∧ ¬ (s.boundary.intcon.gie = true ∧ s.boundary.PendingFlag)))

/-- The word loaded where the step fetches, if one is: at the PC modulo `PROG_WORDS` (rule R62). -/
def State.nextWord (s : State) : Option ProgWord :=
  cellAt (s.pc.toNat % s.cfg.progWords) s.prog

/-- Under `STACK_POLICY = wrap` every push goes through; under `fault` only one below the full count
(rule R25). -/
def State.canPush (s : State) : Prop := s.cfg.stackPolicy = .wrap ∨ s.depth < s.cfg.stackDepth

/-- Under `STACK_POLICY = wrap` every pop goes through; under `fault` only one above the empty count
(rule R26). -/
def State.canPop (s : State) : Prop := s.cfg.stackPolicy = .wrap ∨ 0 < s.depth

/-- The count of live entries after a push: kept under `STACK_POLICY = fault` only (rule R25). -/
def State.depthUp (s : State) : Nat :=
  if s.cfg.stackPolicy = .fault then s.depth + 1 else s.depth

/-- The count of live entries after a pop (rule R25). -/
def State.depthDown (s : State) : Nat :=
  if s.cfg.stackPolicy = .fault then s.depth - 1 else s.depth

/-- `x[f] <- v` with `r` the register of f, then the status bits, then the PC and the cycles: rule
R120 items 4 to 6 with d = 1. `flags` is what the instruction does to STATUS, `flagged` whether it
affects one of Z, DC, C (rule R33). -/
def State.afterStore (s : State) (r : FileReg) (v : Byte) (flagged : Bool)
    (flags : Status → Status) : State :=
  let t := s.writeReg r v flagged
  { t with
    status := flags t.status
    pc := if r = .pcl then t.pc else s.pc + 1#13
    cycles := s.cycles + (if r = .pcl then 2 else 1) }

/-- W takes `v`, then the status bits, then the PC and the cycles: rule R120 items 4 to 6 with d = 0. -/
def State.afterW (s : State) (v : Byte) (flags : Status → Status) : State :=
  { s with w := v, status := flags s.status, pc := s.pc + 1#13, cycles := s.cycles + 1 }

/-- The named premise of rule R68: every output pin shows its latch bit. -/
def State.outputPinsDriven (s : State) : Bool :=
  decide (s.pinsB &&& ~~~s.trisB = s.latchB &&& ~~~s.trisB) &&
    decide (s.pinsA &&& ~~~s.trisA = s.latchA &&& ~~~s.trisA)

end Sys2Proof.Machine
end

