-- ==== Sys2Proof/Certificates/Slice0/Obligations.lean ====
section
/-! DEFINITION. The statements for the provers. A statement marked derived in OBLIGATIONS.json rests on
what the spec marks as its own decision or derivation, or on the log entry its docstring names. -/

open Sys2Proof Sys2Proof.Machine

/-! ### Encoding -/

/-- Every well-formed instruction is read back from its word, whatever its operands (rules R97, R100
to R104, R108). -/
def Obligations.DecodeOfEncodeIsTheInstruction : Prop :=
  ∀ i : Instr, i.wf = true → decode (encode i) = .ok i

/-- Rule R98: the places of the don't-care bits; an encoder writes them 0; a decoder takes them
either way. -/
def Obligations.DontCareBitsSelectTheSameInstruction : Prop :=
  dontCare .clrw = 0x007F#14 ∧ dontCare .nop = 0x0060#14 ∧
    (∀ k, dontCare (.addlw k) = 0x0100#14 ∧ dontCare (.sublw k) = 0x0100#14 ∧
      dontCare (.movlw k) = 0x0300#14 ∧ dontCare (.retlw k) = 0x0300#14) ∧
    (∀ i : Instr, i ≠ .clrw → i ≠ .nop →
      (∀ k, i ≠ .addlw k ∧ i ≠ .sublw k ∧ i ≠ .movlw k ∧ i ≠ .retlw k) → dontCare i = 0#14) ∧
    (∀ i : Instr, i.wf = true → encode i &&& dontCare i = 0#14) ∧
    ∀ (i : Instr) (x : ProgWord), i.wf = true → decode (encode i ||| (x &&& dontCare i)) = .ok i

/-- What the decoder reads from a word is well formed and encodes to that word, its don't-care bits
cleared: no bit but those is dropped (rules R97, R98, R108). -/
def Obligations.EncodeOfDecodeIsTheWordWithoutDontCares : Prop :=
  ∀ (w : ProgWord) (i : Instr), decode w = .ok i →
    i.wf = true ∧ encode i = w &&& ~~~(dontCare i)

/-- The words of rule R105's table, and no others, are refused, by name (rules R105, R106). -/
def Obligations.UnassignedWordsAreRefusedByName : Prop :=
  ∀ w : ProgWord,
    let n := w.toNat
    let unassigned := (0x0001 ≤ n ∧ n ≤ 0x0007) ∨ (0x000A ≤ n ∧ n ≤ 0x001F) ∨
      (0x0021 ≤ n ∧ n ≤ 0x003F) ∨ (0x0041 ≤ n ∧ n ≤ 0x005F) ∨ n = 0x0061 ∨
      (0x0068 ≤ n ∧ n ≤ 0x007F) ∨ (0x3B00 ≤ n ∧ n ≤ 0x3BFF)
    (unassigned → decode w = .error (.unassignedEncoding w)) ∧
      (¬ unassigned → ∃ i, decode w = .ok i)

/-- Words written out from the spec's encodings decode to what they stand for (95_test_vectors.md
section 2.1). -/
def Obligations.WordsOfTheSpecDecode : Prop :=
  decode 0b00011110000010#14 = .ok (.addwf .f 0x02#7) ∧
    decode 0b01111111111111#14 = .ok (.btfss 7#3 0x7F#7) ∧
    decode 0b10011111111111#14 = .ok (.call 0x7FF#11) ∧
    decode 0b11011110101011#14 = .ok (.retlw 0xAB#8) ∧
    decode 0b00000001100110#14 = .ok (.tris 6#3)

/-! ### The step relation -/

/-- A step runs the decoded instruction (rule R229 item 6): undisturbed, awake and with no interrupt
to take, it is `exec` of the instruction at the PC on the state after the devices have acted; an
unassigned word, and an address where nothing is loaded (log 12), are refused by name. -/
def Obligations.StepRunsTheDecodedInstruction : Prop :=
  ∀ s : State, s.Undisturbed → s.boundary.sleeping = false →
    ¬ (s.boundary.intcon.gie = true ∧ s.boundary.PendingFlag) →
    let u := s.boundary
    let word := cellAt (u.pc.toNat % u.cfg.progWords) u.prog
    (∀ w i, word = some w → decode w = .ok i → step s = exec i u) ∧
      (∀ w r, word = some w → decode w = .error r →
        step s = .refused (.unassignedEncoding w)) ∧
      (word = none → step s = .refused (.fetchOutsideImage u.pc))

/-- With a silent environment the devices change nothing, so the step of an awake core with no
interrupt to take is `exec` on the very state, and a word put where the fetch looks is run
(rule R229; the empty input list is log 5, `withFetchWord` is log 12). -/
def Obligations.SilentStepRunsThePlacedWord : Prop :=
  ∀ (s : State) (i : Instr), i.wf = true → s.inputs = [] → s.sleeping = false →
    ¬ (s.intcon.gie = true ∧ s.PendingFlag) →
    step (s.withFetchWord 14 (encode i).toNat) = exec i (s.withFetchWord 14 (encode i).toNat)

/-- A requested reset comes before everything else (rules R214, R228, R229 item 1): the step is the
reset, of the kind the request and `sleeping` give, whatever else is pending. -/
def Obligations.RequestedResetIsAppliedFirst : Prop :=
  ∀ (s : State) (r : ResetRequest), s.boundaryInput.reset = some r →
    step s = .next (s.takeInput.applyReset
      (match r with
        | .powerOn x => .powerOn x
        | .mclr => if s.sleeping then .mclrSleep else .mclrNormal))

/-- A power-on reset, for every draw of the unknown values (rules R44, R241, R244). The model's own are:
how a draw that does not fit is made to fit, its stack cut or filled with 0 and its pointer taken
modulo `STACK_DEPTH` (log 10); the byte of a general-purpose register the draw does not list (log 11);
EECON2 (log 14); `cycles`, the time asleep, `wdtClearedAt` and the pins (log 6, 9, 16). -/
def Obligations.PowerOnLeavesTheResetTable : Prop :=
  ∀ (s : State) (x : PowerOnDraw),
    s.applyReset (.powerOn x) =
      { s with
        pc := s.cfg.resetVector, w := x.w, stack := fitStack s.cfg.stackDepth x.stack
        sp := x.sp % s.cfg.stackDepth, depth := 0
        status :=
          { irp := false, rp1 := false, rp0 := false, toBit := true, pdBit := true, z := x.z,
            dc := x.dc, c := x.c }
        pclath := 0x00#5
        intcon :=
          { gie := false, eeie := false, t0ie := false, inte := false, rbie := false, t0if := false,
            intf := false, rbif := x.rbif }
        optionReg := 0xFF#8, trisA := 0x1F#5, trisB := 0xFF#8, latchA := x.latchA,
        latchB := x.latchB, tmr0 := x.tmr0, fsr := x.fsr,
        ram := (s.applyReset (.powerOn x)).ram
        eedata := x.eedata, eeadr := x.eeadr
        eecon1 := if x.wrerr then 0x08#5 else 0x00#5
        eecon2 := x.eecon2, wdt := 0x00#8, wdtClearedAt := s.cycles + s.sleepTime
        prescaler := 0x00#8, sleeping := false } ∧
      (x.stack.length = s.cfg.stackDepth → fitStack s.cfg.stackDepth x.stack = x.stack) ∧
      ∀ (a : DataAddr) (n : Nat), s.fileReg a = .gpr n →
        readCell n (s.applyReset (.powerOn x)).ram = (cellAt n x.gpr).getD unwrittenByte

/-- An MCLR reset in normal operation, asleep, and a Watchdog reset (rule R241): TO and PD tell them
apart, and what the table marks unchanged is unchanged. The model's own are: EECON1 and EECON2 (log
14), the stack pointer (log 15), `wdtClearedAt` set to now and the time asleep kept (log 9), the cycle
counter kept (log 16) and the pins kept (log 6). -/
def Obligations.OtherResetsLeaveTheResetTable : Prop :=
  ∀ s : State,
    let after := fun (t p : Bool) =>
      { s with
        pc := s.cfg.resetVector, depth := 0
        status := { s.status with irp := false, rp1 := false, rp0 := false, toBit := t, pdBit := p }
        pclath := 0x00#5
        intcon :=
          { gie := false, eeie := false, t0ie := false, inte := false, rbie := false, t0if := false,
            intf := false, rbif := s.intcon.rbif }
        optionReg := 0xFF#8, trisA := 0x1F#5, trisB := 0xFF#8
        eecon1 := if s.eecon1.getLsbD 3 then 0x08#5 else 0x00#5
        wdt := 0x00#8, wdtClearedAt := s.cycles + s.sleepTime, prescaler := 0x00#8
        sleeping := false }
    s.applyReset .mclrNormal = after s.status.toBit s.status.pdBit ∧
      s.applyReset .mclrSleep = after true false ∧ s.applyReset .wdt = after false true

/-- The state after reset holds the values of rule R44 that the spec gives, with the default parameters
and with any others. -/
def Obligations.ResetStateHoldsTheStatedValues : Prop :=
  (∀ p : Params,
    let s := State.resetOf p
    s.cfg = p ∧ s.pc = p.resetVector ∧ s.status.irp = false ∧ s.status.rp1 = false ∧
      s.status.rp0 = false ∧ s.status.toBit = true ∧ s.status.pdBit = true ∧ s.pclath = 0x00#5 ∧
      s.intcon.toByte &&& 0xFE#8 = 0x00#8 ∧ s.optionReg = 0xFF#8 ∧ s.trisA = 0x1F#5 ∧
      s.trisB = 0xFF#8 ∧ s.eecon1 &&& 0x17#5 = 0x00#5 ∧ s.wdt = 0x00#8 ∧ s.prescaler = 0x00#8 ∧
      s.sleeping = false ∧ s.depth = 0) ∧
  State.reset.pc = 0x0000#13 ∧ State.reset.status.toByte defaultLayout &&& 0xF8#8 = 0x18#8 ∧
    State.reset.pclath = 0x00#5 ∧ State.reset.intcon.toByte &&& 0xFE#8 = 0x00#8 ∧
    State.reset.optionReg = 0xFF#8 ∧ State.reset.trisA = 0x1F#5 ∧ State.reset.trisB = 0xFF#8 ∧
    State.reset.eecon1 &&& 0x17#5 = 0x00#5 ∧ State.reset.wdt = 0x00#8 ∧
    State.reset.prescaler = 0x00#8 ∧ State.reset.sleeping = false ∧ State.reset.depth = 0

/-- The environment devices (rule R229 item 2): a raised flag is set whatever its enables, and no
flag is cleared (rule R212); Timer0 advances modulo 256 and a wrap sets T0IF, awake only (rules R222,
R226; log 7). The hidden WDT and prescaler counts advance only while they have a clock, a disabled
WDT having none, and Timer0's prescaler none asleep (rules R221, R226; log 8), and the time asleep
is counted (log 9); nothing else changes. -/
def Obligations.DevicesRaiseFlagsAndAdvanceTimer0 : Prop :=
  ∀ (s : State) (i : Input),
    let wraps := s.sleeping = false ∧ 255 < s.tmr0.toNat + i.timer0
    let prescalerClocked := if s.optionReg.getLsbD 3 then s.cfg.wdtEnabled = true
      else s.sleeping = false
    s.devices i =
      { s with
        intcon :=
          { s.intcon with
            intf := decide (s.intcon.intf = true ∨ i.irq.intf = true)
            rbif := decide (s.intcon.rbif = true ∨ i.irq.rbif = true)
            t0if := decide (s.intcon.t0if = true ∨ i.irq.t0if = true ∨ wraps) }
        eecon1 := BitVec.ofBool (decide (s.eecon1.getLsbD 4 = true ∨ i.irq.eeif = true)) ++
          s.eecon1.extractLsb' 0 4
        tmr0 := if s.sleeping then s.tmr0 else BitVec.ofNat 8 (s.tmr0.toNat + i.timer0)
        wdt := if s.cfg.wdtEnabled then s.wdt + i.wdtTicks else s.wdt
        prescaler := if prescalerClocked then s.prescaler + i.prescalerTicks else s.prescaler
        sleepTime := if s.sleeping then s.sleepTime + i.sleepCycles else s.sleepTime }

/-- Interrupt entry (rules R213, R215): taken when GIE and Pending are 1 and the core is awake; GIE is
cleared, the PC is pushed and becomes `INT_VECTOR`, two cycles pass, and nothing else changes. Under
`STACK_POLICY = fault` a full stack refuses (rule R25). -/
def Obligations.PendingInterruptIsTaken : Prop :=
  ∀ s : State, s.TakesInterrupt →
    let u := s.boundary
    (u.canPush → step s = .next
      { u with
        intcon := { u.intcon with gie := false }
        stack := u.stack.set u.sp u.pc
        sp := (u.sp + 1) % u.cfg.stackDepth
        depth := u.depthUp
        pc := u.cfg.intVector
        cycles := u.cycles + 2 }) ∧
      (¬ u.canPush → step s = .refused .stackOverflow)

/-- A Watchdog time-out, once `WDT_MIN_CYCLES` have passed since the WDT was cleared, of an awake core
is a reset with TO 0 and PD 1, of a sleeping core a wake-up with both 0 that goes on at the
instruction after the SLEEP, with the hidden counts 0, and leaves no interrupt taken (rules R221,
R229 item 3, R241). That the prescaler count is 0 whatever its assignment is log 13; the clock, with
`wdtClearedAt` set to now, is log 9, and that a time-out takes no cycles is log 16. -/
def Obligations.WatchdogTimeOutResetsOrWakes : Prop :=
  ∀ s : State, s.boundaryInput.reset = none → s.TimesOut →
    let u := s.boundary
    (s.sleeping = false → step s = .next (u.applyReset .wdt)) ∧
      (s.sleeping = true → step s = .next
        { u with
          status := { u.status with toBit := false, pdBit := false }
          sleeping := false
          wdt := 0x00#8
          prescaler := 0x00#8
          wdtClearedAt := u.cycles + u.sleepTime })

/-- With the Watchdog disabled, and before `WDT_MIN_CYCLES` have passed since it was cleared, a time-out
input does nothing: the step is that of the same input without it (rule R221; the clock that counts
them is log 9). -/
def Obligations.DisabledWatchdogNeverTimesOut : Prop :=
  ∀ (s : State) (i : Input) (rest : List Input),
    s.cfg.wdtEnabled = false ∨ ¬ State.WdtMayTimeOut { s with inputs := i :: rest } →
    step { s with inputs := i :: rest } =
      step { s with inputs := { i with wdtTimeout := false } :: rest }

/-- Asleep, an enabled flag other than T0IF wakes the core whatever GIE holds, and the same step runs
one instruction, before any interrupt is taken (rules R227 item 3, R229 items 4a and 4b). -/
def Obligations.WakeUpRunsOneInstruction : Prop :=
  ∀ (s : State) (w : ProgWord) (i : Instr), s.Undisturbed → s.sleeping = true →
    s.boundary.WakeFlag → s.nextWord = some w → decode w = .ok i →
    step s = exec i { s.boundary with sleeping := false }

/-- Asleep with no enabled flag but T0IF, the step is what the environment does and nothing more: the
core executes nothing and stays asleep. Of the state only the input and its pins, the flags it
raises, the counts of an enabled Watchdog and the time asleep change (rules R226, R229 item 4a; log
8, 9). -/
def Obligations.SleepingCoreExecutesNothing : Prop :=
  ∀ s : State, s.Undisturbed → s.sleeping = true → ¬ s.boundary.WakeFlag →
    let i := s.boundaryInput
    step s = .next s.boundary ∧
      s.boundary =
        { s with
          inputs := s.inputs.tail
          pinsA := i.pinsA
          pinsB := i.pinsB
          intcon :=
            { s.intcon with
              intf := decide (s.intcon.intf = true ∨ i.irq.intf = true)
              rbif := decide (s.intcon.rbif = true ∨ i.irq.rbif = true)
              t0if := decide (s.intcon.t0if = true ∨ i.irq.t0if = true) }
          eecon1 := BitVec.ofBool (decide (s.eecon1.getLsbD 4 = true ∨ i.irq.eeif = true)) ++
            s.eecon1.extractLsb' 0 4
          wdt := if s.cfg.wdtEnabled then s.wdt + i.wdtTicks else s.wdt
          prescaler := if s.optionReg.getLsbD 3 = true ∧ s.cfg.wdtEnabled = true
            then s.prescaler + i.prescalerTicks else s.prescaler
          sleepTime := s.sleepTime + i.sleepCycles }

/-! ### The register file -/

/-- Resolution (rules R63 to R65): `RP0 ++ f` for f other than 0, FSR for f = 0. -/
def Obligations.ResolveUsesTheBankBitOrFsr : Prop :=
  ∀ (s : State) (f : FileAddr),
    (s.resolve f).toNat =
      if f = 0#7 then s.fsr.toNat else (if s.status.rp0 then 128 else 0) + f.toNat

/-- The default map is the table of rule R27, address by address, on every device. `FILEMAP` is a
parameter (rule R8); that any other one is a table, whose first entry of an address counts and which
leaves an address without an entry unimplemented, is the model's choice (log 4). -/
def Obligations.FileMapIsTheTable : Prop :=
  ∀ (p : Params) (a : DataAddr),
    let n := a.toNat
    let last := if p.device = .pic16F83 ∨ p.device = .pic16CR83 then 0x2F else 0x4F
    let r := regAt p a
    (p.fileMap = .ofDevice →
      (n = 0x00 ∨ n = 0x80 → r = .indf) ∧ (n = 0x01 → r = .tmr0) ∧
        (n = 0x81 → r = .optionReg) ∧ (n = 0x02 ∨ n = 0x82 → r = .pcl) ∧
        (n = 0x03 ∨ n = 0x83 → r = .status) ∧ (n = 0x04 ∨ n = 0x84 → r = .fsr) ∧
        (n = 0x05 → r = .portA) ∧ (n = 0x85 → r = .trisA) ∧
        (n = 0x06 → r = .portB) ∧ (n = 0x86 → r = .trisB) ∧
        (n = 0x07 ∨ n = 0x87 → r = .unimplemented) ∧
        (n = 0x08 → r = .eedata) ∧ (n = 0x88 → r = .eecon1) ∧
        (n = 0x09 → r = .eeadr) ∧ (n = 0x89 → r = .eecon2) ∧
        (n = 0x0A ∨ n = 0x8A → r = .pclath) ∧ (n = 0x0B ∨ n = 0x8B → r = .intcon) ∧
        (0x0C ≤ n ∧ n ≤ last → r = .gpr n) ∧
        (0x8C ≤ n ∧ n ≤ last + 0x80 → r = .gpr (n - 0x80)) ∧
        (last < n ∧ n ≤ 0x7F → r = .unimplemented) ∧
        (last + 0x80 < n → r = .unimplemented)) ∧
      ∀ entries, p.fileMap = .table entries →
        r = ((entries.find? fun e => decide (e.1 = a)).map Prod.snd).getD .unimplemented

/-- What a read of each file register returns (rule R66), STATUS with each bit at its place in
`STATUS_LAYOUT` (rules R8, R32). The EEPROM registers are plain storage (log 14). -/
def Obligations.FileReadsFollowTheTable : Prop :=
  ∀ (s : State) (r : FileReg),
    let v := s.readReg r
    let l := s.cfg.statusLayout
    let bits := fun (n : Nat) => (List.range 8).all fun j => v.getLsbD j == n.testBit j
    match r with
    | .indf => v = 0x00#8
    | .unimplemented => v = 0x00#8
    | .pcl => v.toNat = (s.pc.toNat + 1) % 2 ^ 13 % 256
    | .status => layoutDistinct l = true →
      v.getLsbD l.irp.toNat = s.status.irp ∧ v.getLsbD l.rp1.toNat = s.status.rp1 ∧
        v.getLsbD l.rp0.toNat = s.status.rp0 ∧ v.getLsbD l.toBit.toNat = s.status.toBit ∧
        v.getLsbD l.pdBit.toNat = s.status.pdBit ∧ v.getLsbD l.z.toNat = s.status.z ∧
        v.getLsbD l.dc.toNat = s.status.dc ∧ v.getLsbD l.c.toNat = s.status.c
    | .intcon =>
      v.getLsbD 7 = s.intcon.gie ∧ v.getLsbD 6 = s.intcon.eeie ∧ v.getLsbD 5 = s.intcon.t0ie ∧
        v.getLsbD 4 = s.intcon.inte ∧ v.getLsbD 3 = s.intcon.rbie ∧ v.getLsbD 2 = s.intcon.t0if ∧
        v.getLsbD 1 = s.intcon.intf ∧ v.getLsbD 0 = s.intcon.rbif
    | .pclath => bits s.pclath.toNat = true
    | .fsr => v = s.fsr
    | .optionReg => v = s.optionReg
    | .trisA => bits s.trisA.toNat = true
    | .trisB => v = s.trisB
    | .portA => bits s.pinsA.toNat = true
    | .portB => v = s.pinsB
    | .tmr0 => v = s.tmr0
    | .eedata => v = s.eedata
    | .eeadr => v = s.eeadr
    | .eecon1 => bits s.eecon1.toNat = true
    | .eecon2 => v = s.eecon2
    | .gpr n => v = readCell n s.ram

/-- A write of STATUS (rules R32, R33), each bit at its place in `STATUS_LAYOUT`: IRP, RP1 and RP0 come
from the byte, TO and PD never change, and Z, DC and C come from the byte unless the instruction
affects one of them; nothing else changes. -/
def Obligations.StatusWriteKeepsToAndPd : Prop :=
  ∀ (s : State) (v : Byte) (flagged : Bool),
    let l := s.cfg.statusLayout
    ∃ st, s.writeReg .status v flagged = { s with status := st } ∧
      st.irp = v.getLsbD l.irp.toNat ∧ st.rp1 = v.getLsbD l.rp1.toNat ∧
      st.rp0 = v.getLsbD l.rp0.toNat ∧ st.toBit = s.status.toBit ∧ st.pdBit = s.status.pdBit ∧
      (flagged = false → st.z = v.getLsbD l.z.toNat ∧ st.dc = v.getLsbD l.dc.toNat ∧
        st.c = v.getLsbD l.c.toNat) ∧
      (flagged = true → st.z = s.status.z ∧ st.dc = s.status.dc ∧ st.c = s.status.c)

/-- What a write of each file register does, and that it does nothing else: an unimplemented address
and INDF through itself take no write (rules R29, R66 to R68, R72). The bits a write of STATUS takes
are StatusWriteKeepsToAndPd's. The EEPROM registers are plain storage (log 14). -/
def Obligations.FileWritesFollowTheTable : Prop :=
  ∀ (s : State) (r : FileReg) (v : Byte) (flagged : Bool),
    let t := s.writeReg r v flagged
    match r with
    | .indf => t = s
    | .unimplemented => t = s
    | .tmr0 => t = { s with
        tmr0 := v, prescaler := if s.optionReg.getLsbD 3 then s.prescaler else 0x00#8 }
    | .pcl => ∃ p : ProgAddr, t = { s with pc := p } ∧ p.extractLsb' 0 8 = v ∧
        p.extractLsb' 8 5 = s.pclath
    | .status => ∃ st, t = { s with status := st }
    | .fsr => t = { s with fsr := v }
    | .portA => t = { s with latchA := v.extractLsb' 0 5 }
    | .portB => t = { s with latchB := v }
    | .eedata => t = { s with eedata := v }
    | .eeadr => t = { s with eeadr := v }
    | .pclath => t = { s with pclath := v.extractLsb' 0 5 }
    | .intcon => ∃ ic, t = { s with intcon := ic } ∧ ic.toByte = v
    | .optionReg => t = { s with optionReg := v }
    | .trisA => t = { s with trisA := v.extractLsb' 0 5 }
    | .trisB => t = { s with trisB := v }
    | .eecon1 => t = { s with eecon1 := v.extractLsb' 0 5 }
    | .eecon2 => t = { s with eecon2 := v }
    | .gpr n => ∃ m, t = { s with ram := m } ∧ readCell n m = v ∧
        ∀ k, k ≠ n → readCell k m = readCell k s.ram

/-- A general-purpose register returns the last value written, at every address that names it, in the
default map at both of its addresses, and a write of it leaves every other one and all the rest of
the state alone (rules R27, R66). -/
def Obligations.GeneralRegisterHoldsTheLastValueWritten : Prop :=
  ∀ (s : State) (a : DataAddr) (v : Byte) (flagged : Bool) (n : Nat), s.fileReg a = .gpr n →
    let t := s.writeReg (s.fileReg a) v flagged
    t = { s with ram := t.ram } ∧ (∀ b, s.fileReg b = .gpr n → t.readReg (t.fileReg b) = v) ∧
      (s.cfg.fileMap = .ofDevice → t.readReg (t.fileReg (a ^^^ 0x80#8)) = v) ∧
      ∀ m, m ≠ n → readCell m t.ram = readCell m s.ram

/-- A read-modify-write of a port works on the pins and writes the whole result to the latch, the
latch bits of other pins with it (rules R68, R245): MOVF, BCF and BSF on port B. -/
def Obligations.PortReadModifyWriteUsesThePins : Prop :=
  ∀ (s : State) (f : FileAddr) (b : BitIndex), s.fileReg (s.resolve f) = .portB →
    (∃ t, exec (.movf .f f) s = .next t ∧ t.latchB = s.pinsB ∧ t.pinsB = s.pinsB) ∧
      (∃ t, exec (.bsf b f) s = .next t ∧ t.pinsB = s.pinsB ∧
        ∀ j, j < 8 → t.latchB.getLsbD j = (decide (j = b.toNat) || s.pinsB.getLsbD j)) ∧
      ∃ t, exec (.bcf b f) s = .next t ∧ t.pinsB = s.pinsB ∧
        ∀ j, j < 8 → t.latchB.getLsbD j = (!decide (j = b.toNat) && s.pinsB.getLsbD j)

/-- Under the named premise of rule R68, that every output pin shows its latch bit, a BSF or BCF of one
bit of port B leaves the latch bits of the other output pins as they were: the hazard of rule R245 is
the input pins' alone. The premise is the spec's, not a fact of the model. -/
def Obligations.DrivenOutputsKeepTheirLatchBits : Prop :=
  ∀ (s : State) (f : FileAddr) (b : BitIndex), s.fileReg (s.resolve f) = .portB →
    s.outputPinsDriven = true →
    ∃ t u, exec (.bsf b f) s = .next t ∧ exec (.bcf b f) s = .next u ∧
      ∀ j, j < 8 → j ≠ b.toNat → s.trisB.getLsbD j = false →
        t.latchB.getLsbD j = s.latchB.getLsbD j ∧ u.latchB.getLsbD j = s.latchB.getLsbD j

/-- Whatever instruction stores to TMR0, MOVWF included, clears the prescaler count if the prescaler
is assigned to Timer0 and leaves it alone if not (rules R72, R246). -/
def Obligations.EveryStoreToTmr0ClearsItsPrescaler : Prop :=
  ∀ (i : Instr) (s t : State), s.storeReg i = some .tmr0 → exec i s = .next t →
    t.prescaler = if s.optionReg.getLsbD 3 then s.prescaler else 0x00#8

/-! ### The return stack -/

/-- Push and pop under `STACK_POLICY = wrap` (rules R25, R26, R251): a push always succeeds, and the
pop after it returns to the pointer before, with the value pushed as the top. However many values are
pushed, at least `STACK_DEPTH` of them, the older ones are overwritten without a sign: the pops see
the last `STACK_DEPTH` values, newest first, again and again. -/
def Obligations.StackWrapsSilently : Prop :=
  ∀ s : State, s.cfg.stackPolicy = .wrap → s.stackWf = true →
    let n := s.cfg.stackDepth
    let put := fun (s : State) (v : ProgAddr) =>
      { s with stack := s.stack.set s.sp v, sp := (s.sp + 1) % n }
    let down := fun (s : State) => { s with sp := (s.sp + n - 1) % n }
    (∀ v, s.push v = .ok (put s v) ∧ (put s v).tos = v ∧ (put s v).pop = .ok (down (put s v)) ∧
        (down (put s v)).sp = s.sp ∧ (put s v).stackWf = true) ∧
      ∀ vs : List ProgAddr, n ≤ vs.length →
        ∀ j, (Nat.iterate down j (vs.foldl put s)).tos = vs.reverse.getD (j % n) 0#13

/-- Under `STACK_POLICY = fault` the live entries are counted, a push of a full stack and a pop of an
empty one are refused, and CALL and RETURN pass the refusal on (rules R25, R26). -/
def Obligations.FaultPolicyRefusesOverflowAndUnderflow : Prop :=
  ∀ (s : State) (k : BitVec 11), s.cfg.stackPolicy = .fault →
    (s.cfg.stackDepth ≤ s.depth → exec (.call k) s = .refused .stackOverflow) ∧
      (s.depth < s.cfg.stackDepth → ∃ t, exec (.call k) s = .next t ∧ t.depth = s.depth + 1) ∧
      (s.depth = 0 → exec .ret s = .refused .stackUnderflow) ∧
      (0 < s.depth → ∃ t, exec .ret s = .next t ∧ t.depth = s.depth - 1)

/-- A RETURN straight after a CALL goes to the address after the CALL, with the stack pointer and
the count where they were and PCLATH not restored (rules R173, R180, R249). -/
def Obligations.ReturnGoesBackBehindTheCall : Prop :=
  ∀ (s : State) (k : BitVec 11), s.stackWf = true → s.canPush →
    ∃ t u, exec (.call k) s = .next t ∧ exec .ret t = .next u ∧ u.pc = s.pc + 1#13 ∧ u.sp = s.sp ∧
      u.depth = s.depth ∧ u.pclath = s.pclath ∧ u.w = s.w ∧ u.status = s.status

/-- An interrupt's handler that returns at once resumes the interrupted program where it was, with
interrupts enabled again, and all else but the spent stack cell and the cycles as before (rules R215,
R217). -/
def Obligations.RetfieUndoesInterruptEntry : Prop :=
  ∀ s : State, s.stackWf = true → s.canPush → s.intcon.gie = true →
    ∃ t u, s.interruptEntry = .next t ∧ t.intcon.gie = false ∧ t.pc = s.cfg.intVector ∧
      exec .retfie t = .next u ∧
      u = { s with stack := u.stack, cycles := s.cycles + 4 } ∧
      u.stack.length = s.stack.length ∧ ∀ j, j ≠ s.sp → u.stack[j]? = s.stack[j]?

/-- A flag still pending when RETFIE sets GIE is taken before the instruction at the return address
executes (rules R178, R213, R217, R229): with a silent environment the two steps leave the machine at
`INT_VECTOR` with the same stack, GIE 0 again, four cycles later and nothing else changed. -/
def Obligations.RetfieWithAPendingFlagReentersTheHandler : Prop :=
  ∀ (s : State) (w : ProgWord), s.inputs = [] → s.sleeping = false → s.intcon.gie = false →
    s.PendingFlag → s.stackWf = true →
    (s.cfg.stackPolicy = .wrap ∨ (0 < s.depth ∧ s.depth ≤ s.cfg.stackDepth)) →
    s.nextWord = some w → decode w = .ok .retfie →
    ∃ t, step s = .next t ∧
      s.stack[(s.sp + s.cfg.stackDepth - 1) % s.cfg.stackDepth]? = some t.pc ∧
      t.intcon.gie = true ∧
      step t = .next { s with pc := s.cfg.intVector, cycles := s.cycles + 4 }

/-! ### Byte-oriented instructions -/

/-- ADDWF (rules R120, R121, R123): W plus f; C is the carry out of bit 7, DC out of bit 3, as the
spec decides (D9). -/
def Obligations.AddwfAddsWAndFile : Prop :=
  ∀ (f : FileAddr) (s : State),
    let x := s.fileReg (s.resolve f)
    let v := s.readReg x
    let flags := fun st : Status =>
      { st with
        c := BitVec.carry 8 s.w v false
        dc := BitVec.carry 4 s.w v false
        z := decide (s.w + v = 0#8) }
    exec (.addwf .w f) s = .next (s.afterW (s.w + v) flags) ∧
      exec (.addwf .f f) s = .next (s.afterStore x (s.w + v) true flags)

/-- SUBWF (rules R120, R121, R138): f minus W; C and DC are 1 when there is no borrow out of bit 7
and bit 3, as the spec decides (D9). -/
def Obligations.SubwfSubtractsWFromFile : Prop :=
  ∀ (f : FileAddr) (s : State),
    let x := s.fileReg (s.resolve f)
    let v := s.readReg x
    let flags := fun st : Status =>
      { st with
        c := decide (s.w ≤ v)
        dc := decide (s.w.extractLsb' 0 4 ≤ v.extractLsb' 0 4)
        z := decide (v = s.w) }
    exec (.subwf .w f) s = .next (s.afterW (v - s.w) flags) ∧
      exec (.subwf .f f) s = .next (s.afterStore x (v - s.w) true flags)

/-- ANDWF, IORWF, XORWF (rules R124, R132, R140): encoding, bitwise result, Z, cycles. -/
def Obligations.LogicWfIsBitwise : Prop :=
  ∀ (f : FileAddr) (s : State),
    (∀ d : Dest, decode (0b000101#6 ++ d.bit ++ f) = .ok (.andwf d f) ∧
      decode (0b000100#6 ++ d.bit ++ f) = .ok (.iorwf d f) ∧
      decode (0b000110#6 ++ d.bit ++ f) = .ok (.xorwf d f)) ∧
    let x := s.fileReg (s.resolve f)
    let v := s.readReg x
    let z := fun (r : Byte) (st : Status) => { st with z := decide (r = 0#8) }
    (∃ r : Byte, (∀ j, j < 8 → r.getLsbD j = (s.w.getLsbD j && v.getLsbD j)) ∧
      exec (.andwf .w f) s = .next (s.afterW r (z r)) ∧
      exec (.andwf .f f) s = .next (s.afterStore x r true (z r))) ∧
    (∃ r : Byte, (∀ j, j < 8 → r.getLsbD j = (s.w.getLsbD j || v.getLsbD j)) ∧
      exec (.iorwf .w f) s = .next (s.afterW r (z r)) ∧
      exec (.iorwf .f f) s = .next (s.afterStore x r true (z r))) ∧
    ∃ r : Byte, (∀ j, j < 8 → r.getLsbD j = (s.w.getLsbD j != v.getLsbD j)) ∧
      exec (.xorwf .w f) s = .next (s.afterW r (z r)) ∧
      exec (.xorwf .f f) s = .next (s.afterStore x r true (z r))

/-- COMF and MOVF (rules R127, R133): encoding, 255 minus f, f itself, Z, cycles. -/
def Obligations.ComfComplementsAndMovfMoves : Prop :=
  ∀ (f : FileAddr) (s : State),
    (∀ d : Dest, decode (0b001001#6 ++ d.bit ++ f) = .ok (.comf d f) ∧
      decode (0b001000#6 ++ d.bit ++ f) = .ok (.movf d f)) ∧
    let x := s.fileReg (s.resolve f)
    let v := s.readReg x
    let z := fun (r : Byte) (st : Status) => { st with z := decide (r.toNat = 0) }
    exec (.comf .w f) s = .next (s.afterW (255#8 - v) (z (255#8 - v))) ∧
      exec (.comf .f f) s = .next (s.afterStore x (255#8 - v) true (z (255#8 - v))) ∧
      exec (.movf .w f) s = .next (s.afterW v (z v)) ∧
      exec (.movf .f f) s = .next (s.afterStore x v true (z v))

/-- DECF and INCF (rules R128, R130): encoding, f minus and plus 1 modulo 256, Z alone, cycles. -/
def Obligations.DecfAndIncfWriteZAlone : Prop :=
  ∀ (f : FileAddr) (s : State),
    (∀ d : Dest, decode (0b000011#6 ++ d.bit ++ f) = .ok (.decf d f) ∧
      decode (0b001010#6 ++ d.bit ++ f) = .ok (.incf d f)) ∧
    let x := s.fileReg (s.resolve f)
    let v := s.readReg x
    let z := fun (r : Byte) (st : Status) => { st with z := decide (r.toNat = 0) }
    (∃ r : Byte, (r.toNat : Int) = ((v.toNat : Int) - 1) % 256 ∧
      exec (.decf .w f) s = .next (s.afterW r (z r)) ∧
      exec (.decf .f f) s = .next (s.afterStore x r true (z r))) ∧
    ∃ r : Byte, r.toNat = (v.toNat + 1) % 256 ∧
      exec (.incf .w f) s = .next (s.afterW r (z r)) ∧
      exec (.incf .f f) s = .next (s.afterStore x r true (z r))

/-- DECFSZ and INCFSZ (rules R129, R131): encoding; f minus and plus 1 modulo 256; the next
instruction is skipped exactly on a zero result; no status bit; a destination of PCL has no meaning
and is refused by name. -/
def Obligations.DecfszAndIncfszSkipOnZero : Prop :=
  ∀ (f : FileAddr) (s : State),
    (∀ d : Dest, decode (0b001011#6 ++ d.bit ++ f) = .ok (.decfsz d f) ∧
      decode (0b001111#6 ++ d.bit ++ f) = .ok (.incfsz d f)) ∧
    let x := s.fileReg (s.resolve f)
    let v := s.readReg x
    let go := fun (t : State) (r : Byte) =>
      if r = 0#8 then { t with pc := s.pc + 2#13, cycles := s.cycles + 2 }
      else { t with pc := s.pc + 1#13, cycles := s.cycles + 1 }
    (∃ r : Byte, (r.toNat : Int) = ((v.toNat : Int) - 1) % 256 ∧
      exec (.decfsz .w f) s = .next (go { s with w := r } r) ∧
      (x ≠ .pcl →
        exec (.decfsz .f f) s = .next (go (s.writeReg x r false) r)) ∧
      (x = .pcl → exec (.decfsz .f f) s = .refused .skipWithPclDestination)) ∧
    ∃ r : Byte, r.toNat = (v.toNat + 1) % 256 ∧
      exec (.incfsz .w f) s = .next (go { s with w := r } r) ∧
      (x ≠ .pcl →
        exec (.incfsz .f f) s = .next (go (s.writeReg x r false) r)) ∧
      (x = .pcl → exec (.incfsz .f f) s = .refused .skipWithPclDestination)

/-- RLF and RRF (rules R136, R137): encoding; a rotation of the nine bits of C and f by one place; C
alone is written. -/
def Obligations.RotatesGoThroughCarry : Prop :=
  ∀ (f : FileAddr) (s : State),
    (∀ d : Dest, decode (0b001101#6 ++ d.bit ++ f) = .ok (.rlf d f) ∧
      decode (0b001100#6 ++ d.bit ++ f) = .ok (.rrf d f)) ∧
    let x := s.fileReg (s.resolve f)
    let v := s.readReg x
    (∃ r : Byte, r.getLsbD 0 = s.status.c ∧ (∀ j, j < 7 → r.getLsbD (j + 1) = v.getLsbD j) ∧
      let c := fun st : Status => { st with c := v.getLsbD 7 }
      exec (.rlf .w f) s = .next (s.afterW r c) ∧
        exec (.rlf .f f) s = .next (s.afterStore x r true c)) ∧
    ∃ r : Byte, r.getLsbD 7 = s.status.c ∧ (∀ j, j < 7 → r.getLsbD j = v.getLsbD (j + 1)) ∧
      let c := fun st : Status => { st with c := v.getLsbD 0 }
      exec (.rrf .w f) s = .next (s.afterW r c) ∧
        exec (.rrf .f f) s = .next (s.afterStore x r true c)

/-- SWAPF (rule R139): encoding; the nibbles exchanged; no status bit. -/
def Obligations.SwapfExchangesNibbles : Prop :=
  ∀ (f : FileAddr) (s : State),
    (∀ d : Dest, decode (0b001110#6 ++ d.bit ++ f) = .ok (.swapf d f)) ∧
    let x := s.fileReg (s.resolve f)
    let v := s.readReg x
    ∃ r : Byte,
      (∀ j, j < 4 → r.getLsbD (j + 4) = v.getLsbD j ∧ r.getLsbD j = v.getLsbD (j + 4)) ∧
      exec (.swapf .w f) s = .next (s.afterW r id) ∧
      exec (.swapf .f f) s = .next (s.afterStore x r false id)

/-- CLRF and MOVWF (rules R125, R134): encoding; zero and Z; W, no status bit, W kept. -/
def Obligations.ClrfClearsAndMovwfStoresW : Prop :=
  ∀ (f : FileAddr) (s : State),
    decode (0b0000011#7 ++ f) = .ok (.clrf f) ∧ decode (0b0000001#7 ++ f) = .ok (.movwf f) ∧
      exec (.clrf f) s =
        .next (s.afterStore (s.fileReg (s.resolve f)) 0#8 true fun st => { st with z := true }) ∧
      exec (.movwf f) s = .next (s.afterStore (s.fileReg (s.resolve f)) s.w false id)

/-- CLRW and NOP (rules R126, R135), whatever their don't-care bits. -/
def Obligations.ClrwClearsWAndNopDoesNothing : Prop :=
  ∀ s : State,
    (∀ x : BitVec 7, decode (0b0000010#7 ++ x) = .ok .clrw) ∧
      (∀ x : BitVec 2, decode (0b0000000#7 ++ x ++ 0b00000#5) = .ok .nop) ∧
      exec .clrw s = .next
        { s with
          w := 0x00#8, status := { s.status with z := true }, pc := s.pc + 1#13,
          cycles := s.cycles + 1 } ∧
      exec .nop s = .next { s with pc := s.pc + 1#13, cycles := s.cycles + 1 }

/-! ### Bit-oriented instructions -/

/-- BCF and BSF (rules R161, R162): encoding; bit b cleared and set, the other seven as read; no
status bit. -/
def Obligations.BcfAndBsfChangeOneBit : Prop :=
  ∀ (b : BitIndex) (f : FileAddr) (s : State),
    decode (0b0100#4 ++ b ++ f) = .ok (.bcf b f) ∧ decode (0b0101#4 ++ b ++ f) = .ok (.bsf b f) ∧
    let x := s.fileReg (s.resolve f)
    let v := s.readReg x
    (∃ r : Byte, (∀ j, j < 8 → r.getLsbD j = if j = b.toNat then false else v.getLsbD j) ∧
      exec (.bcf b f) s = .next (s.afterStore x r false id)) ∧
    ∃ r : Byte, (∀ j, j < 8 → r.getLsbD j = if j = b.toNat then true else v.getLsbD j) ∧
      exec (.bsf b f) s = .next (s.afterStore x r false id)

/-- BTFSC and BTFSS (rules R163, R164): encoding; the next instruction is skipped exactly if bit b is
0, if it is 1; nothing is written but the PC and the cycles. -/
def Obligations.BitTestsSkip : Prop :=
  ∀ (b : BitIndex) (f : FileAddr) (s : State),
    decode (0b0110#4 ++ b ++ f) = .ok (.btfsc b f) ∧
      decode (0b0111#4 ++ b ++ f) = .ok (.btfss b f) ∧
    let set := (s.readReg (s.fileReg (s.resolve f))).toNat / 2 ^ b.toNat % 2 = 1
    let skipped := { s with pc := s.pc + 2#13, cycles := s.cycles + 2 }
    let passed := { s with pc := s.pc + 1#13, cycles := s.cycles + 1 }
    (set → exec (.btfsc b f) s = .next passed ∧ exec (.btfss b f) s = .next skipped) ∧
      (¬ set → exec (.btfsc b f) s = .next skipped ∧ exec (.btfss b f) s = .next passed)

/-! ### Literal and control instructions -/

/-- ADDLW and SUBLW (rules R121, R171, R182): W plus k, k minus W, and the three flags as the spec
decides them (D9). -/
def Obligations.AddlwAddsAndSublwSubtracts : Prop :=
  ∀ (k : Byte) (s : State),
    (exec (.addlw k) s = .next (s.afterW (s.w + k) fun st =>
      { st with
        c := BitVec.carry 8 s.w k false
        dc := BitVec.carry 4 s.w k false
        z := decide (s.w + k = 0#8) })) ∧
    exec (.sublw k) s = .next (s.afterW (k - s.w) fun st =>
      { st with
        c := decide (s.w ≤ k)
        dc := decide (s.w.extractLsb' 0 4 ≤ k.extractLsb' 0 4)
        z := decide (k = s.w) })

/-- ANDLW, IORLW, XORLW, MOVLW (rules R172, R176, R177, R183): encoding, bitwise result and Z; MOVLW
writes no status bit. -/
def Obligations.LogicLwIsBitwiseAndMovlwLoads : Prop :=
  ∀ (k : Byte) (s : State),
    decode (0b111001#6 ++ k) = .ok (.andlw k) ∧ decode (0b111000#6 ++ k) = .ok (.iorlw k) ∧
      decode (0b111010#6 ++ k) = .ok (.xorlw k) ∧
      (∀ x : BitVec 2, decode (0b1100#4 ++ x ++ k) = .ok (.movlw k)) ∧
    let z := fun (r : Byte) (st : Status) => { st with z := decide (r = 0#8) }
    (∃ r : Byte, (∀ j, j < 8 → r.getLsbD j = (s.w.getLsbD j && k.getLsbD j)) ∧
      exec (.andlw k) s = .next (s.afterW r (z r))) ∧
    (∃ r : Byte, (∀ j, j < 8 → r.getLsbD j = (s.w.getLsbD j || k.getLsbD j)) ∧
      exec (.iorlw k) s = .next (s.afterW r (z r))) ∧
    (∃ r : Byte, (∀ j, j < 8 → r.getLsbD j = (s.w.getLsbD j != k.getLsbD j)) ∧
      exec (.xorlw k) s = .next (s.afterW r (z r))) ∧
    exec (.movlw k) s = .next (s.afterW k id)

/-- GOTO (rule R175): encoding; PC<10:0> is k, PC<12:11> is PCLATH<4:3>; two cycles; nothing else. -/
def Obligations.GotoJumpsWithinTheSelectedPage : Prop :=
  ∀ (k : BitVec 11) (s : State),
    decode (0b101#3 ++ k) = .ok (.goto k) ∧
    ∃ p : ProgAddr, p.extractLsb' 0 11 = k ∧ p.extractLsb' 11 2 = s.pclath.extractLsb' 3 2 ∧
      exec (.goto k) s = .next { s with pc := p, cycles := s.cycles + 2 }

/-- CALL (rules R25, R173): PC + 1 is pushed, PC<10:0> is k, PC<12:11> is PCLATH<4:3>; nothing else.
What a stack without a cell at its pointer does is the model's own (log 2). -/
def Obligations.CallPushesAndJumps : Prop :=
  ∀ (k : BitVec 11) (s : State), s.canPush →
    ∃ p : ProgAddr, p.extractLsb' 0 11 = k ∧ p.extractLsb' 11 2 = s.pclath.extractLsb' 3 2 ∧
      exec (.call k) s = .next
        { s with
          stack := s.stack.set s.sp (s.pc + 1#13)
          sp := (s.sp + 1) % s.cfg.stackDepth
          depth := s.depthUp
          pc := p
          cycles := s.cycles + 2 }

/-- RETURN, RETLW and RETFIE (rules R26, R178 to R180): the PC is the top of the stack, which is
popped; RETLW loads W; RETFIE sets GIE; nothing else. What a stack without a cell there reads is the
model's own (log 2). -/
def Obligations.ReturnsPopThePc : Prop :=
  ∀ (k : Byte) (s : State), s.canPop →
    let top := (s.sp + s.cfg.stackDepth - 1) % s.cfg.stackDepth
    let back :=
      { s with
        pc := s.stack.getD top 0x0000#13
        sp := top
        depth := s.depthDown
        cycles := s.cycles + 2 }
    exec .ret s = .next back ∧ exec (.retlw k) s = .next { back with w := k } ∧
      exec .retfie s = .next { back with intcon := { s.intcon with gie := true } }

/-- CLRWDT and SLEEP (rules R35, R174, R181): the WDT is 0, the prescaler count is 0 if it is assigned
to the WDT, TO is 1, PD is 1 and 0; SLEEP sets `sleeping`; nothing else. With the Watchdog disabled
CLRWDT only sets TO and PD (rule R221); that SLEEP clears the counts then too is log 19. The time of
the clear is the model's own (log 9). -/
def Obligations.ClrwdtAndSleepClearTheWatchdog : Prop :=
  ∀ s : State,
    let cleared :=
      { s with
        wdt := 0x00#8
        prescaler := if s.optionReg.getLsbD 3 then 0x00#8 else s.prescaler
        wdtClearedAt := s.cycles + 1 + s.sleepTime }
    let after := fun (t : State) (p asleep : Bool) =>
      { t with
        status := { s.status with toBit := true, pdBit := p }
        sleeping := asleep
        pc := s.pc + 1#13
        cycles := s.cycles + 1 }
    (s.cfg.wdtEnabled = true → exec .clrwdt s = .next (after cleared true s.sleeping)) ∧
      (s.cfg.wdtEnabled = false → exec .clrwdt s = .next (after s true s.sleeping)) ∧
      exec .sleep s = .next (after cleared false true)

/-! ### OPTION and TRIS -/

/-- OPTION and TRIS (rules R201, R202): W is stored in OPTION_REG, in TRISA (five bits) and in TRISB,
whatever the bank; nothing else; TRIS on any other number, 7 among them, is refused by name. That
they store to these registers under every `FILEMAP`, where the rules write the addresses 0x81, 0x85
and 0x86 of the default map, is the model's inference (log 4). -/
def Obligations.OptionAndTrisStoreW : Prop :=
  ∀ s : State,
    exec .option s = .next { s with optionReg := s.w, pc := s.pc + 1#13, cycles := s.cycles + 1 } ∧
      exec (.tris 5#3) s = .next
        { s with trisA := s.w.extractLsb' 0 5, pc := s.pc + 1#13, cycles := s.cycles + 1 } ∧
      exec (.tris 6#3) s = .next
        { s with trisB := s.w, pc := s.pc + 1#13, cycles := s.cycles + 1 } ∧
      ∀ f : BitVec 3, f ≠ 5#3 → f ≠ 6#3 → exec (.tris f) s = .refused (.trisNoSuchPort f)

/-- The equivalent without OPTION and TRIS: in the default map with bank 1 selected a MOVWF of 0x01,
0x05 or 0x06 leaves the same state (rules R201 to R203). That under every `FILEMAP` a MOVWF of the
register does, whatever the map has at 0x81, 0x85 and 0x86, is the model's inference (log 4). -/
def Obligations.OptionIsMovwfInBankOne : Prop :=
  ∀ s : State,
    (∀ f : FileAddr,
      (s.fileReg (s.resolve f) = .optionReg → exec .option s = exec (.movwf f) s) ∧
        (s.fileReg (s.resolve f) = .trisA → exec (.tris 5#3) s = exec (.movwf f) s) ∧
        (s.fileReg (s.resolve f) = .trisB → exec (.tris 6#3) s = exec (.movwf f) s)) ∧
      (s.cfg.fileMap = .ofDevice → s.status.rp0 = true →
        s.fileReg (s.resolve 0x01#7) = .optionReg ∧ s.fileReg (s.resolve 0x05#7) = .trisA ∧
          s.fileReg (s.resolve 0x06#7) = .trisB)

/-! ### The whole machine -/

/-- Only the file register an instruction stores to changes: every other one reads as before, each byte
of the general-purpose registers among them, and so do the port latches. STATUS takes the flags and
PCL the PC; RETFIE writes GIE (rules R21, R66, R75, R142). The register OPTION and TRIS store to under
a map that is not the default is log 4. -/
def Obligations.OnlyTheStoredFileRegisterChanges : Prop :=
  ∀ (i : Instr) (s t : State), exec i s = .next t →
    (∀ r : FileReg, s.storeReg i ≠ some r → r ≠ .pcl → r ≠ .status →
      (i = .retfie → r ≠ .intcon) → t.readReg r = s.readReg r) ∧
      (∀ n, s.storeReg i ≠ some (.gpr n) → readCell n t.ram = readCell n s.ram) ∧
      (s.storeReg i ≠ some .portA → t.latchA = s.latchA) ∧
      (s.storeReg i ≠ some .portB → t.latchB = s.latchB)

/-- W is written only by the instructions of rule R20's list. -/
def Obligations.WIsWrittenOnlyByItsList : Prop :=
  ∀ (i : Instr) (s t : State), exec i s = .next t → writesW i = false → t.w = s.w

/-- Of C, DC and Z an instruction that does not store to STATUS writes only those its "Status
Affected" entry lists, and TO and PD only CLRWDT and SLEEP write; the bank bits change only by a
store to STATUS (rules R30, R31). The register OPTION and TRIS store to under a map that is not the
default is log 4. -/
def Obligations.StatusBitsChangeOnlyAsListed : Prop :=
  ∀ (i : Instr) (s t : State), exec i s = .next t →
    (i ≠ .clrwdt → i ≠ .sleep → t.status.toBit = s.status.toBit ∧ t.status.pdBit = s.status.pdBit) ∧
      (s.storeReg i ≠ some .status →
        (affectsC i = false → t.status.c = s.status.c) ∧
          (affectsDC i = false → t.status.dc = s.status.dc) ∧
          (affectsZ i = false → t.status.z = s.status.z) ∧
          t.status.irp = s.status.irp ∧ t.status.rp1 = s.status.rp1 ∧
          t.status.rp0 = s.status.rp0)

/-- The PC changes other than by + 1 only as rule R184 lists: the transfers, a skip taken, a store to
PCL. The register OPTION and TRIS store to under a map that is not the default is log 4. -/
def Obligations.PcAdvancesUnlessListed : Prop :=
  ∀ (i : Instr) (s t : State), exec i s = .next t → transfers i = false →
    s.storeReg i ≠ some .pcl →
    (t.pc = s.pc + 1#13 ∧ t.cycles = s.cycles + 1) ∨
      (skips i = true ∧ t.pc = s.pc + 2#13 ∧ t.cycles = s.cycles + 2)

/-- An instruction leaves alone what it does not name: the stack but for CALL and the returns, the
WDT, the prescaler and `sleeping` but for CLRWDT and SLEEP (and, for the prescaler, a store to TMR0),
the interrupt enables and flags but for RETFIE's GIE and a store to INTCON, PCLATH but for a store to
it; and it never writes the program, the configuration, the pins, the inputs or the time asleep
(rules R24, R28, R35, R78, R80). The register OPTION and TRIS store to under a map that is not the
default is log 4; the time asleep and the time of the last clear are log 9. -/
def Obligations.InstructionsLeaveTheRestAlone : Prop :=
  ∀ (i : Instr) (s t : State), exec i s = .next t →
    t.prog = s.prog ∧ t.cfg = s.cfg ∧ t.pinsA = s.pinsA ∧ t.pinsB = s.pinsB ∧
      t.inputs = s.inputs ∧ t.sleepTime = s.sleepTime ∧
      (usesStack i = false → t.stack = s.stack ∧ t.sp = s.sp ∧ t.depth = s.depth) ∧
      (i ≠ .clrwdt → i ≠ .sleep → t.wdt = s.wdt ∧ t.wdtClearedAt = s.wdtClearedAt ∧
        (s.storeReg i ≠ some .tmr0 → t.prescaler = s.prescaler)) ∧
      (i ≠ .sleep → t.sleeping = s.sleeping) ∧
      (s.storeReg i ≠ some .intcon →
        t.intcon = { s.intcon with gie := s.intcon.gie || decide (i = .retfie) }) ∧
      (s.storeReg i ≠ some .pclath → t.pclath = s.pclath)

/-- No step writes program memory or the configuration, whatever the environment does (rules R45,
R78; that the parameters stand in the state is log 1 to 4). -/
def Obligations.NoStepWritesTheProgram : Prop :=
  ∀ s t : State, step s = .next t → t.prog = s.prog ∧ t.cfg = s.cfg

/-- Every step, whatever the environment does, keeps the state well formed: the memories in their
canonical form and within what the parameters give them, the stack of `STACK_DEPTH` cells with its
pointer in it, the live entries at most as many, and the last clear of the WDT not in the future
(rules R25, R27, R62; the canonical form and the clock are the model's own, log 9 and 11). -/
def Obligations.StepKeepsTheStateWellFormed : Prop :=
  ∀ s t : State, s.wf = true → step s = .next t → t.wf = true

/-- The state after reset is well formed, with the default parameters and with any others that make a
machine (the canonical form and the clock are the model's own, log 9 and 11). -/
def Obligations.ResetStateIsWellFormed : Prop :=
  State.reset.wf = true ∧ ∀ p : Params, paramsWf p = true → (State.resetOf p).wf = true

/-- A step ends in a refusal exactly where the spec gives no meaning: it runs an instruction and nothing
is loaded at the PC, or the word there is unassigned, a TRIS with no port, or a skip whose
destination is PCL; or, under `STACK_POLICY = fault` alone, it pushes on a full stack (a CALL, an
interrupt entry) or pops an empty one (a RETURN, RETLW or RETFIE) (93_implementation_defined.md
section 2; that nothing is loaded at first is log 12, and that the optional refusals are not taken
is log 4). -/
def Obligations.StepRefusesOnlyWithoutMeaning : Prop :=
  ∀ (s : State) (r : Refusal), step s = .refused r ↔
    (s.RunsInstruction ∧ s.nextWord = none ∧ r = .fetchOutsideImage s.pc) ∨
      (s.RunsInstruction ∧ ∃ w, s.nextWord = some w ∧
        ((r = .unassignedEncoding w ∧ ∀ i, decode w ≠ .ok i) ∨
          (r = .trisNoSuchPort 7#3 ∧ decode w = .ok (.tris 7#3)) ∨
          (r = .skipWithPclDestination ∧
            ∃ f, s.fileReg (s.resolve f) = .pcl ∧
              (decode w = .ok (.decfsz .f f) ∨ decode w = .ok (.incfsz .f f))) ∨
          (r = .stackOverflow ∧ s.cfg.stackPolicy = .fault ∧ s.cfg.stackDepth ≤ s.depth ∧
            ∃ k, decode w = .ok (.call k)) ∨
          (r = .stackUnderflow ∧ s.cfg.stackPolicy = .fault ∧ s.depth = 0 ∧
            (decode w = .ok .ret ∨ (∃ k, decode w = .ok (.retlw k)) ∨ decode w = .ok .retfie)))) ∨
      (s.TakesInterrupt ∧ s.cfg.stackPolicy = .fault ∧ s.cfg.stackDepth ≤ s.depth ∧
        r = .stackOverflow)
end

