-- ==== Sys2Proof/Laws/Memory.lean ====
section
/-! SUPPORT. The laws of the sparse memories: read after write, and the canonical form is kept. -/

namespace Sys2Proof.Machine

variable {α : Type}

theorem cellAt_setCell (a b : Nat) (v : α) (m : List (Nat × α)) :
    cellAt b (setCell a v m) = if a = b then some v else cellAt b m := by
  induction m with
  | nil => simp [setCell, cellAt]
  | cons c rest ih =>
    obtain ⟨k, u⟩ := c
    simp only [setCell]
    split
    · simp only [cellAt]
    · split
      · subst_vars
        simp only [cellAt]
        split <;> simp_all
      · simp only [cellAt, ih]
        split <;> split <;> simp_all

theorem cellAt_dropCell (a b : Nat) (m : List (Nat × α)) :
    cellAt b (dropCell a m) = if a = b then none else cellAt b m := by
  induction m with
  | nil => simp [dropCell, cellAt]
  | cons c rest ih =>
    obtain ⟨k, u⟩ := c
    simp only [dropCell]
    split
    · subst_vars
      simp only [cellAt, ih]
      split <;> rfl
    · simp only [cellAt, ih]
      split <;> split <;> simp_all

theorem all_setCell (p : Nat × α → Bool) {a : Nat} {v : α} {m : List (Nat × α)}
    (hm : m.all p = true) (hv : p (a, v) = true) : (setCell a v m).all p = true := by
  induction m with
  | nil => simp [setCell, hv]
  | cons c rest ih =>
    simp only [List.all_cons, Bool.and_eq_true] at hm
    simp only [setCell]
    split
    · simp [hv, hm.1, hm.2]
    · split
      · simp [hv, hm.2]
      · simp [hm.1, ih hm.2]

theorem all_dropCell (p : Nat × α → Bool) {a : Nat} {m : List (Nat × α)} (hm : m.all p = true) :
    (dropCell a m).all p = true := by
  induction m with
  | nil => rfl
  | cons c rest ih =>
    simp only [List.all_cons, Bool.and_eq_true] at hm
    simp only [dropCell]
    split
    · exact ih hm.2
    · simp [hm.1, ih hm.2]

theorem cellsRise_setCell {a : Nat} {v : α} {m : List (Nat × α)} (h : cellsRise m = true) :
    cellsRise (setCell a v m) = true := by
  induction m with
  | nil => rfl
  | cons c rest ih =>
    obtain ⟨k, u⟩ := c
    simp only [cellsRise, Bool.and_eq_true] at h
    simp only [setCell]
    split
    · rename_i hlt
      have hab : cellsAbove a rest = true := by
        have := h.1
        simp only [cellsAbove, List.all_eq_true, decide_eq_true_eq] at this ⊢
        intro x hx
        exact Nat.lt_trans hlt (this x hx)
      simp only [cellsRise, h.1, h.2, Bool.and_true]
      simp only [cellsAbove, List.all_cons, Bool.and_eq_true, decide_eq_true_eq]
      exact ⟨hlt, by simpa [cellsAbove] using hab⟩
    · split
      · subst_vars; simp [cellsRise, h.1, h.2]
      · simp only [cellsRise, ih h.2, Bool.and_true]
        exact all_setCell _ h.1 (by simp; omega)

theorem cellsRise_dropCell {a : Nat} {m : List (Nat × α)} (h : cellsRise m = true) :
    cellsRise (dropCell a m) = true := by
  induction m with
  | nil => rfl
  | cons c rest ih =>
    obtain ⟨k, u⟩ := c
    simp only [cellsRise, Bool.and_eq_true] at h
    simp only [dropCell]
    split
    · exact ih h.2
    · simp only [cellsRise, ih h.2, Bool.and_true]
      exact all_dropCell _ h.1

/-- Read after write. -/
theorem readCell_writeCell (a b : Nat) (v : Byte) (m : List Host.Cell) :
    readCell b (writeCell a v m) = if a = b then v else readCell b m := by
  simp only [readCell, writeCell]
  split
  · rw [cellAt_dropCell]
    split <;> simp_all
  · rw [cellAt_setCell]
    split <;> rfl

/-- A write keeps the canonical form. -/
theorem Memory.wf_writeCell {a : Nat} {v : Byte} {m : List Host.Cell} (h : Memory.wf m = true) :
    Memory.wf (writeCell a v m) = true := by
  simp only [Memory.wf, Bool.and_eq_true] at h ⊢
  simp only [writeCell]
  split
  · exact ⟨cellsRise_dropCell h.1, all_dropCell _ h.2⟩
  · exact ⟨cellsRise_setCell h.1, all_setCell _ h.2 (by simpa)⟩

/-- A write lists no address but the one written. -/
theorem all_writeCell (p : Nat → Bool) {a : Nat} {v : Byte} {m : List Host.Cell}
    (hm : (m.all fun c => p c.1) = true) (ha : p a = true) :
    ((writeCell a v m).all fun c => p c.1) = true := by
  simp only [writeCell]
  split
  · exact all_dropCell _ hm
  · exact all_setCell (fun c => p c.1) hm ha

theorem Memory.wf_nil : Memory.wf [] = true := rfl

end Sys2Proof.Machine
end

