-- ==== Sys2Proof/Laws/State.lean ====
section
/-! SUPPORT. One lemma per field per update of the state. -/

namespace Sys2Proof.Machine

@[simp] theorem State.advance_cfg (s : State) : s.advance.cfg = s.cfg := rfl
@[simp] theorem State.advance_w (s : State) : s.advance.w = s.w := rfl
@[simp] theorem State.advance_pc (s : State) : s.advance.pc = s.pc + 1#13 := rfl
@[simp] theorem State.advance_stack (s : State) : s.advance.stack = s.stack := rfl
@[simp] theorem State.advance_sp (s : State) : s.advance.sp = s.sp := rfl
@[simp] theorem State.advance_depth (s : State) : s.advance.depth = s.depth := rfl
@[simp] theorem State.advance_status (s : State) : s.advance.status = s.status := rfl
@[simp] theorem State.advance_pclath (s : State) : s.advance.pclath = s.pclath := rfl
@[simp] theorem State.advance_fsr (s : State) : s.advance.fsr = s.fsr := rfl
@[simp] theorem State.advance_intcon (s : State) : s.advance.intcon = s.intcon := rfl
@[simp] theorem State.advance_optionReg (s : State) : s.advance.optionReg = s.optionReg := rfl
@[simp] theorem State.advance_trisA (s : State) : s.advance.trisA = s.trisA := rfl
@[simp] theorem State.advance_trisB (s : State) : s.advance.trisB = s.trisB := rfl
@[simp] theorem State.advance_latchA (s : State) : s.advance.latchA = s.latchA := rfl
@[simp] theorem State.advance_latchB (s : State) : s.advance.latchB = s.latchB := rfl
@[simp] theorem State.advance_pinsA (s : State) : s.advance.pinsA = s.pinsA := rfl
@[simp] theorem State.advance_pinsB (s : State) : s.advance.pinsB = s.pinsB := rfl
@[simp] theorem State.advance_tmr0 (s : State) : s.advance.tmr0 = s.tmr0 := rfl
@[simp] theorem State.advance_prescaler (s : State) : s.advance.prescaler = s.prescaler := rfl
@[simp] theorem State.advance_wdt (s : State) : s.advance.wdt = s.wdt := rfl
@[simp] theorem State.advance_eedata (s : State) : s.advance.eedata = s.eedata := rfl
@[simp] theorem State.advance_eeadr (s : State) : s.advance.eeadr = s.eeadr := rfl
@[simp] theorem State.advance_eecon1 (s : State) : s.advance.eecon1 = s.eecon1 := rfl
@[simp] theorem State.advance_eecon2 (s : State) : s.advance.eecon2 = s.eecon2 := rfl
@[simp] theorem State.advance_ram (s : State) : s.advance.ram = s.ram := rfl
@[simp] theorem State.advance_prog (s : State) : s.advance.prog = s.prog := rfl
@[simp] theorem State.advance_sleeping (s : State) : s.advance.sleeping = s.sleeping := rfl
@[simp] theorem State.advance_cycles (s : State) : s.advance.cycles = s.cycles + 1 := rfl
@[simp] theorem State.advance_sleepTime (s : State) : s.advance.sleepTime = s.sleepTime := rfl
@[simp] theorem State.advance_wdtClearedAt (s : State) :
    s.advance.wdtClearedAt = s.wdtClearedAt := rfl
@[simp] theorem State.advance_inputs (s : State) : s.advance.inputs = s.inputs := rfl

@[simp] theorem State.skipIf_cfg (s : State) (b : Bool) : (s.skipIf b).cfg = s.cfg := rfl
@[simp] theorem State.skipIf_w (s : State) (b : Bool) : (s.skipIf b).w = s.w := rfl
@[simp] theorem State.skipIf_pc (s : State) (b : Bool) :
    (s.skipIf b).pc = if b then s.pc + 2#13 else s.pc + 1#13 := rfl
@[simp] theorem State.skipIf_stack (s : State) (b : Bool) : (s.skipIf b).stack = s.stack := rfl
@[simp] theorem State.skipIf_sp (s : State) (b : Bool) : (s.skipIf b).sp = s.sp := rfl
@[simp] theorem State.skipIf_depth (s : State) (b : Bool) : (s.skipIf b).depth = s.depth := rfl
@[simp] theorem State.skipIf_status (s : State) (b : Bool) : (s.skipIf b).status = s.status := rfl
@[simp] theorem State.skipIf_pclath (s : State) (b : Bool) : (s.skipIf b).pclath = s.pclath := rfl
@[simp] theorem State.skipIf_fsr (s : State) (b : Bool) : (s.skipIf b).fsr = s.fsr := rfl
@[simp] theorem State.skipIf_intcon (s : State) (b : Bool) : (s.skipIf b).intcon = s.intcon := rfl
@[simp] theorem State.skipIf_optionReg (s : State) (b : Bool) :
    (s.skipIf b).optionReg = s.optionReg := rfl
@[simp] theorem State.skipIf_trisA (s : State) (b : Bool) : (s.skipIf b).trisA = s.trisA := rfl
@[simp] theorem State.skipIf_trisB (s : State) (b : Bool) : (s.skipIf b).trisB = s.trisB := rfl
@[simp] theorem State.skipIf_latchA (s : State) (b : Bool) : (s.skipIf b).latchA = s.latchA := rfl
@[simp] theorem State.skipIf_latchB (s : State) (b : Bool) : (s.skipIf b).latchB = s.latchB := rfl
@[simp] theorem State.skipIf_pinsA (s : State) (b : Bool) : (s.skipIf b).pinsA = s.pinsA := rfl
@[simp] theorem State.skipIf_pinsB (s : State) (b : Bool) : (s.skipIf b).pinsB = s.pinsB := rfl
@[simp] theorem State.skipIf_tmr0 (s : State) (b : Bool) : (s.skipIf b).tmr0 = s.tmr0 := rfl
@[simp] theorem State.skipIf_prescaler (s : State) (b : Bool) :
    (s.skipIf b).prescaler = s.prescaler := rfl
@[simp] theorem State.skipIf_wdt (s : State) (b : Bool) : (s.skipIf b).wdt = s.wdt := rfl
@[simp] theorem State.skipIf_eedata (s : State) (b : Bool) : (s.skipIf b).eedata = s.eedata := rfl
@[simp] theorem State.skipIf_eeadr (s : State) (b : Bool) : (s.skipIf b).eeadr = s.eeadr := rfl
@[simp] theorem State.skipIf_eecon1 (s : State) (b : Bool) : (s.skipIf b).eecon1 = s.eecon1 := rfl
@[simp] theorem State.skipIf_eecon2 (s : State) (b : Bool) : (s.skipIf b).eecon2 = s.eecon2 := rfl
@[simp] theorem State.skipIf_ram (s : State) (b : Bool) : (s.skipIf b).ram = s.ram := rfl
@[simp] theorem State.skipIf_prog (s : State) (b : Bool) : (s.skipIf b).prog = s.prog := rfl
@[simp] theorem State.skipIf_sleeping (s : State) (b : Bool) :
    (s.skipIf b).sleeping = s.sleeping := rfl
@[simp] theorem State.skipIf_cycles (s : State) (b : Bool) :
    (s.skipIf b).cycles = s.cycles + if b then 2 else 1 := rfl
@[simp] theorem State.skipIf_sleepTime (s : State) (b : Bool) :
    (s.skipIf b).sleepTime = s.sleepTime := rfl
@[simp] theorem State.skipIf_wdtClearedAt (s : State) (b : Bool) :
    (s.skipIf b).wdtClearedAt = s.wdtClearedAt := rfl
@[simp] theorem State.skipIf_inputs (s : State) (b : Bool) : (s.skipIf b).inputs = s.inputs := rfl

@[simp] theorem State.jump_cfg (s : State) (t : ProgAddr) : (s.jump t).cfg = s.cfg := rfl
@[simp] theorem State.jump_w (s : State) (t : ProgAddr) : (s.jump t).w = s.w := rfl
@[simp] theorem State.jump_pc (s : State) (t : ProgAddr) : (s.jump t).pc = t := rfl
@[simp] theorem State.jump_stack (s : State) (t : ProgAddr) : (s.jump t).stack = s.stack := rfl
@[simp] theorem State.jump_sp (s : State) (t : ProgAddr) : (s.jump t).sp = s.sp := rfl
@[simp] theorem State.jump_depth (s : State) (t : ProgAddr) : (s.jump t).depth = s.depth := rfl
@[simp] theorem State.jump_status (s : State) (t : ProgAddr) : (s.jump t).status = s.status := rfl
@[simp] theorem State.jump_pclath (s : State) (t : ProgAddr) : (s.jump t).pclath = s.pclath := rfl
@[simp] theorem State.jump_fsr (s : State) (t : ProgAddr) : (s.jump t).fsr = s.fsr := rfl
@[simp] theorem State.jump_intcon (s : State) (t : ProgAddr) : (s.jump t).intcon = s.intcon := rfl
@[simp] theorem State.jump_optionReg (s : State) (t : ProgAddr) :
    (s.jump t).optionReg = s.optionReg := rfl
@[simp] theorem State.jump_trisA (s : State) (t : ProgAddr) : (s.jump t).trisA = s.trisA := rfl
@[simp] theorem State.jump_trisB (s : State) (t : ProgAddr) : (s.jump t).trisB = s.trisB := rfl
@[simp] theorem State.jump_latchA (s : State) (t : ProgAddr) : (s.jump t).latchA = s.latchA := rfl
@[simp] theorem State.jump_latchB (s : State) (t : ProgAddr) : (s.jump t).latchB = s.latchB := rfl
@[simp] theorem State.jump_pinsA (s : State) (t : ProgAddr) : (s.jump t).pinsA = s.pinsA := rfl
@[simp] theorem State.jump_pinsB (s : State) (t : ProgAddr) : (s.jump t).pinsB = s.pinsB := rfl
@[simp] theorem State.jump_tmr0 (s : State) (t : ProgAddr) : (s.jump t).tmr0 = s.tmr0 := rfl
@[simp] theorem State.jump_prescaler (s : State) (t : ProgAddr) :
    (s.jump t).prescaler = s.prescaler := rfl
@[simp] theorem State.jump_wdt (s : State) (t : ProgAddr) : (s.jump t).wdt = s.wdt := rfl
@[simp] theorem State.jump_eedata (s : State) (t : ProgAddr) : (s.jump t).eedata = s.eedata := rfl
@[simp] theorem State.jump_eeadr (s : State) (t : ProgAddr) : (s.jump t).eeadr = s.eeadr := rfl
@[simp] theorem State.jump_eecon1 (s : State) (t : ProgAddr) : (s.jump t).eecon1 = s.eecon1 := rfl
@[simp] theorem State.jump_eecon2 (s : State) (t : ProgAddr) : (s.jump t).eecon2 = s.eecon2 := rfl
@[simp] theorem State.jump_ram (s : State) (t : ProgAddr) : (s.jump t).ram = s.ram := rfl
@[simp] theorem State.jump_prog (s : State) (t : ProgAddr) : (s.jump t).prog = s.prog := rfl
@[simp] theorem State.jump_sleeping (s : State) (t : ProgAddr) :
    (s.jump t).sleeping = s.sleeping := rfl
@[simp] theorem State.jump_cycles (s : State) (t : ProgAddr) :
    (s.jump t).cycles = s.cycles + 2 := rfl
@[simp] theorem State.jump_sleepTime (s : State) (t : ProgAddr) :
    (s.jump t).sleepTime = s.sleepTime := rfl
@[simp] theorem State.jump_wdtClearedAt (s : State) (t : ProgAddr) :
    (s.jump t).wdtClearedAt = s.wdtClearedAt := rfl
@[simp] theorem State.jump_inputs (s : State) (t : ProgAddr) : (s.jump t).inputs = s.inputs := rfl

@[simp] theorem State.endWrite_cfg (s : State) (r : FileReg) : (s.endWrite r).cfg = s.cfg := rfl
@[simp] theorem State.endWrite_w (s : State) (r : FileReg) : (s.endWrite r).w = s.w := rfl
@[simp] theorem State.endWrite_pc (s : State) (r : FileReg) :
    (s.endWrite r).pc = if r = .pcl then s.pc else s.pc + 1#13 := rfl
@[simp] theorem State.endWrite_stack (s : State) (r : FileReg) :
    (s.endWrite r).stack = s.stack := rfl
@[simp] theorem State.endWrite_sp (s : State) (r : FileReg) : (s.endWrite r).sp = s.sp := rfl
@[simp] theorem State.endWrite_depth (s : State) (r : FileReg) :
    (s.endWrite r).depth = s.depth := rfl
@[simp] theorem State.endWrite_status (s : State) (r : FileReg) :
    (s.endWrite r).status = s.status := rfl
@[simp] theorem State.endWrite_pclath (s : State) (r : FileReg) :
    (s.endWrite r).pclath = s.pclath := rfl
@[simp] theorem State.endWrite_fsr (s : State) (r : FileReg) : (s.endWrite r).fsr = s.fsr := rfl
@[simp] theorem State.endWrite_intcon (s : State) (r : FileReg) :
    (s.endWrite r).intcon = s.intcon := rfl
@[simp] theorem State.endWrite_optionReg (s : State) (r : FileReg) :
    (s.endWrite r).optionReg = s.optionReg := rfl
@[simp] theorem State.endWrite_trisA (s : State) (r : FileReg) :
    (s.endWrite r).trisA = s.trisA := rfl
@[simp] theorem State.endWrite_trisB (s : State) (r : FileReg) :
    (s.endWrite r).trisB = s.trisB := rfl
@[simp] theorem State.endWrite_latchA (s : State) (r : FileReg) :
    (s.endWrite r).latchA = s.latchA := rfl
@[simp] theorem State.endWrite_latchB (s : State) (r : FileReg) :
    (s.endWrite r).latchB = s.latchB := rfl
@[simp] theorem State.endWrite_pinsA (s : State) (r : FileReg) :
    (s.endWrite r).pinsA = s.pinsA := rfl
@[simp] theorem State.endWrite_pinsB (s : State) (r : FileReg) :
    (s.endWrite r).pinsB = s.pinsB := rfl
@[simp] theorem State.endWrite_tmr0 (s : State) (r : FileReg) : (s.endWrite r).tmr0 = s.tmr0 := rfl
@[simp] theorem State.endWrite_prescaler (s : State) (r : FileReg) :
    (s.endWrite r).prescaler = s.prescaler := rfl
@[simp] theorem State.endWrite_wdt (s : State) (r : FileReg) : (s.endWrite r).wdt = s.wdt := rfl
@[simp] theorem State.endWrite_eedata (s : State) (r : FileReg) :
    (s.endWrite r).eedata = s.eedata := rfl
@[simp] theorem State.endWrite_eeadr (s : State) (r : FileReg) :
    (s.endWrite r).eeadr = s.eeadr := rfl
@[simp] theorem State.endWrite_eecon1 (s : State) (r : FileReg) :
    (s.endWrite r).eecon1 = s.eecon1 := rfl
@[simp] theorem State.endWrite_eecon2 (s : State) (r : FileReg) :
    (s.endWrite r).eecon2 = s.eecon2 := rfl
@[simp] theorem State.endWrite_ram (s : State) (r : FileReg) : (s.endWrite r).ram = s.ram := rfl
@[simp] theorem State.endWrite_prog (s : State) (r : FileReg) : (s.endWrite r).prog = s.prog := rfl
@[simp] theorem State.endWrite_sleeping (s : State) (r : FileReg) :
    (s.endWrite r).sleeping = s.sleeping := rfl
@[simp] theorem State.endWrite_cycles (s : State) (r : FileReg) :
    (s.endWrite r).cycles = s.cycles + if r = .pcl then 2 else 1 := rfl
@[simp] theorem State.endWrite_sleepTime (s : State) (r : FileReg) :
    (s.endWrite r).sleepTime = s.sleepTime := rfl
@[simp] theorem State.endWrite_wdtClearedAt (s : State) (r : FileReg) :
    (s.endWrite r).wdtClearedAt = s.wdtClearedAt := rfl
@[simp] theorem State.endWrite_inputs (s : State) (r : FileReg) :
    (s.endWrite r).inputs = s.inputs := rfl

@[simp] theorem State.setFlags_cfg (s : State) (u : FlagUpdate) : (s.setFlags u).cfg = s.cfg := rfl
@[simp] theorem State.setFlags_w (s : State) (u : FlagUpdate) : (s.setFlags u).w = s.w := rfl
@[simp] theorem State.setFlags_pc (s : State) (u : FlagUpdate) : (s.setFlags u).pc = s.pc := rfl
@[simp] theorem State.setFlags_stack (s : State) (u : FlagUpdate) :
    (s.setFlags u).stack = s.stack := rfl
@[simp] theorem State.setFlags_sp (s : State) (u : FlagUpdate) : (s.setFlags u).sp = s.sp := rfl
@[simp] theorem State.setFlags_depth (s : State) (u : FlagUpdate) :
    (s.setFlags u).depth = s.depth := rfl
@[simp] theorem State.setFlags_status (s : State) (u : FlagUpdate) :
    (s.setFlags u).status = u.apply s.status := rfl
@[simp] theorem State.setFlags_pclath (s : State) (u : FlagUpdate) :
    (s.setFlags u).pclath = s.pclath := rfl
@[simp] theorem State.setFlags_fsr (s : State) (u : FlagUpdate) : (s.setFlags u).fsr = s.fsr := rfl
@[simp] theorem State.setFlags_intcon (s : State) (u : FlagUpdate) :
    (s.setFlags u).intcon = s.intcon := rfl
@[simp] theorem State.setFlags_optionReg (s : State) (u : FlagUpdate) :
    (s.setFlags u).optionReg = s.optionReg := rfl
@[simp] theorem State.setFlags_trisA (s : State) (u : FlagUpdate) :
    (s.setFlags u).trisA = s.trisA := rfl
@[simp] theorem State.setFlags_trisB (s : State) (u : FlagUpdate) :
    (s.setFlags u).trisB = s.trisB := rfl
@[simp] theorem State.setFlags_latchA (s : State) (u : FlagUpdate) :
    (s.setFlags u).latchA = s.latchA := rfl
@[simp] theorem State.setFlags_latchB (s : State) (u : FlagUpdate) :
    (s.setFlags u).latchB = s.latchB := rfl
@[simp] theorem State.setFlags_pinsA (s : State) (u : FlagUpdate) :
    (s.setFlags u).pinsA = s.pinsA := rfl
@[simp] theorem State.setFlags_pinsB (s : State) (u : FlagUpdate) :
    (s.setFlags u).pinsB = s.pinsB := rfl
@[simp] theorem State.setFlags_tmr0 (s : State) (u : FlagUpdate) :
    (s.setFlags u).tmr0 = s.tmr0 := rfl
@[simp] theorem State.setFlags_prescaler (s : State) (u : FlagUpdate) :
    (s.setFlags u).prescaler = s.prescaler := rfl
@[simp] theorem State.setFlags_wdt (s : State) (u : FlagUpdate) : (s.setFlags u).wdt = s.wdt := rfl
@[simp] theorem State.setFlags_eedata (s : State) (u : FlagUpdate) :
    (s.setFlags u).eedata = s.eedata := rfl
@[simp] theorem State.setFlags_eeadr (s : State) (u : FlagUpdate) :
    (s.setFlags u).eeadr = s.eeadr := rfl
@[simp] theorem State.setFlags_eecon1 (s : State) (u : FlagUpdate) :
    (s.setFlags u).eecon1 = s.eecon1 := rfl
@[simp] theorem State.setFlags_eecon2 (s : State) (u : FlagUpdate) :
    (s.setFlags u).eecon2 = s.eecon2 := rfl
@[simp] theorem State.setFlags_ram (s : State) (u : FlagUpdate) : (s.setFlags u).ram = s.ram := rfl
@[simp] theorem State.setFlags_prog (s : State) (u : FlagUpdate) :
    (s.setFlags u).prog = s.prog := rfl
@[simp] theorem State.setFlags_sleeping (s : State) (u : FlagUpdate) :
    (s.setFlags u).sleeping = s.sleeping := rfl
@[simp] theorem State.setFlags_cycles (s : State) (u : FlagUpdate) :
    (s.setFlags u).cycles = s.cycles := rfl
@[simp] theorem State.setFlags_sleepTime (s : State) (u : FlagUpdate) :
    (s.setFlags u).sleepTime = s.sleepTime := rfl
@[simp] theorem State.setFlags_wdtClearedAt (s : State) (u : FlagUpdate) :
    (s.setFlags u).wdtClearedAt = s.wdtClearedAt := rfl
@[simp] theorem State.setFlags_inputs (s : State) (u : FlagUpdate) :
    (s.setFlags u).inputs = s.inputs := rfl

@[simp] theorem State.setGie_cfg (s : State) (b : Bool) : (s.setGie b).cfg = s.cfg := rfl
@[simp] theorem State.setGie_w (s : State) (b : Bool) : (s.setGie b).w = s.w := rfl
@[simp] theorem State.setGie_pc (s : State) (b : Bool) : (s.setGie b).pc = s.pc := rfl
@[simp] theorem State.setGie_stack (s : State) (b : Bool) : (s.setGie b).stack = s.stack := rfl
@[simp] theorem State.setGie_sp (s : State) (b : Bool) : (s.setGie b).sp = s.sp := rfl
@[simp] theorem State.setGie_depth (s : State) (b : Bool) : (s.setGie b).depth = s.depth := rfl
@[simp] theorem State.setGie_status (s : State) (b : Bool) : (s.setGie b).status = s.status := rfl
@[simp] theorem State.setGie_pclath (s : State) (b : Bool) : (s.setGie b).pclath = s.pclath := rfl
@[simp] theorem State.setGie_fsr (s : State) (b : Bool) : (s.setGie b).fsr = s.fsr := rfl
@[simp] theorem State.setGie_intcon (s : State) (b : Bool) :
    (s.setGie b).intcon = { s.intcon with gie := b } := rfl
@[simp] theorem State.setGie_optionReg (s : State) (b : Bool) :
    (s.setGie b).optionReg = s.optionReg := rfl
@[simp] theorem State.setGie_trisA (s : State) (b : Bool) : (s.setGie b).trisA = s.trisA := rfl
@[simp] theorem State.setGie_trisB (s : State) (b : Bool) : (s.setGie b).trisB = s.trisB := rfl
@[simp] theorem State.setGie_latchA (s : State) (b : Bool) : (s.setGie b).latchA = s.latchA := rfl
@[simp] theorem State.setGie_latchB (s : State) (b : Bool) : (s.setGie b).latchB = s.latchB := rfl
@[simp] theorem State.setGie_pinsA (s : State) (b : Bool) : (s.setGie b).pinsA = s.pinsA := rfl
@[simp] theorem State.setGie_pinsB (s : State) (b : Bool) : (s.setGie b).pinsB = s.pinsB := rfl
@[simp] theorem State.setGie_tmr0 (s : State) (b : Bool) : (s.setGie b).tmr0 = s.tmr0 := rfl
@[simp] theorem State.setGie_prescaler (s : State) (b : Bool) :
    (s.setGie b).prescaler = s.prescaler := rfl
@[simp] theorem State.setGie_wdt (s : State) (b : Bool) : (s.setGie b).wdt = s.wdt := rfl
@[simp] theorem State.setGie_eedata (s : State) (b : Bool) : (s.setGie b).eedata = s.eedata := rfl
@[simp] theorem State.setGie_eeadr (s : State) (b : Bool) : (s.setGie b).eeadr = s.eeadr := rfl
@[simp] theorem State.setGie_eecon1 (s : State) (b : Bool) : (s.setGie b).eecon1 = s.eecon1 := rfl
@[simp] theorem State.setGie_eecon2 (s : State) (b : Bool) : (s.setGie b).eecon2 = s.eecon2 := rfl
@[simp] theorem State.setGie_ram (s : State) (b : Bool) : (s.setGie b).ram = s.ram := rfl
@[simp] theorem State.setGie_prog (s : State) (b : Bool) : (s.setGie b).prog = s.prog := rfl
@[simp] theorem State.setGie_sleeping (s : State) (b : Bool) :
    (s.setGie b).sleeping = s.sleeping := rfl
@[simp] theorem State.setGie_cycles (s : State) (b : Bool) : (s.setGie b).cycles = s.cycles := rfl
@[simp] theorem State.setGie_sleepTime (s : State) (b : Bool) :
    (s.setGie b).sleepTime = s.sleepTime := rfl
@[simp] theorem State.setGie_wdtClearedAt (s : State) (b : Bool) :
    (s.setGie b).wdtClearedAt = s.wdtClearedAt := rfl
@[simp] theorem State.setGie_inputs (s : State) (b : Bool) : (s.setGie b).inputs = s.inputs := rfl

@[simp] theorem State.clearWdt_cfg (s : State) : s.clearWdt.cfg = s.cfg := rfl
@[simp] theorem State.clearWdt_w (s : State) : s.clearWdt.w = s.w := rfl
@[simp] theorem State.clearWdt_pc (s : State) : s.clearWdt.pc = s.pc := rfl
@[simp] theorem State.clearWdt_stack (s : State) : s.clearWdt.stack = s.stack := rfl
@[simp] theorem State.clearWdt_sp (s : State) : s.clearWdt.sp = s.sp := rfl
@[simp] theorem State.clearWdt_depth (s : State) : s.clearWdt.depth = s.depth := rfl
@[simp] theorem State.clearWdt_status (s : State) : s.clearWdt.status = s.status := rfl
@[simp] theorem State.clearWdt_pclath (s : State) : s.clearWdt.pclath = s.pclath := rfl
@[simp] theorem State.clearWdt_fsr (s : State) : s.clearWdt.fsr = s.fsr := rfl
@[simp] theorem State.clearWdt_intcon (s : State) : s.clearWdt.intcon = s.intcon := rfl
@[simp] theorem State.clearWdt_optionReg (s : State) : s.clearWdt.optionReg = s.optionReg := rfl
@[simp] theorem State.clearWdt_trisA (s : State) : s.clearWdt.trisA = s.trisA := rfl
@[simp] theorem State.clearWdt_trisB (s : State) : s.clearWdt.trisB = s.trisB := rfl
@[simp] theorem State.clearWdt_latchA (s : State) : s.clearWdt.latchA = s.latchA := rfl
@[simp] theorem State.clearWdt_latchB (s : State) : s.clearWdt.latchB = s.latchB := rfl
@[simp] theorem State.clearWdt_pinsA (s : State) : s.clearWdt.pinsA = s.pinsA := rfl
@[simp] theorem State.clearWdt_pinsB (s : State) : s.clearWdt.pinsB = s.pinsB := rfl
@[simp] theorem State.clearWdt_tmr0 (s : State) : s.clearWdt.tmr0 = s.tmr0 := rfl
@[simp] theorem State.clearWdt_prescaler (s : State) :
    s.clearWdt.prescaler = if s.psa then 0x00#8 else s.prescaler := rfl
@[simp] theorem State.clearWdt_wdt (s : State) : s.clearWdt.wdt = 0x00#8 := rfl
@[simp] theorem State.clearWdt_eedata (s : State) : s.clearWdt.eedata = s.eedata := rfl
@[simp] theorem State.clearWdt_eeadr (s : State) : s.clearWdt.eeadr = s.eeadr := rfl
@[simp] theorem State.clearWdt_eecon1 (s : State) : s.clearWdt.eecon1 = s.eecon1 := rfl
@[simp] theorem State.clearWdt_eecon2 (s : State) : s.clearWdt.eecon2 = s.eecon2 := rfl
@[simp] theorem State.clearWdt_ram (s : State) : s.clearWdt.ram = s.ram := rfl
@[simp] theorem State.clearWdt_prog (s : State) : s.clearWdt.prog = s.prog := rfl
@[simp] theorem State.clearWdt_sleeping (s : State) : s.clearWdt.sleeping = s.sleeping := rfl
@[simp] theorem State.clearWdt_cycles (s : State) : s.clearWdt.cycles = s.cycles := rfl
@[simp] theorem State.clearWdt_sleepTime (s : State) : s.clearWdt.sleepTime = s.sleepTime := rfl
@[simp] theorem State.clearWdt_wdtClearedAt (s : State) : s.clearWdt.wdtClearedAt = s.elapsed := rfl
@[simp] theorem State.clearWdt_inputs (s : State) : s.clearWdt.inputs = s.inputs := rfl

@[simp] theorem State.setToPd_cfg (s : State) (t p : Bool) : (s.setToPd t p).cfg = s.cfg := rfl
@[simp] theorem State.setToPd_w (s : State) (t p : Bool) : (s.setToPd t p).w = s.w := rfl
@[simp] theorem State.setToPd_pc (s : State) (t p : Bool) : (s.setToPd t p).pc = s.pc := rfl
@[simp] theorem State.setToPd_stack (s : State) (t p : Bool) :
    (s.setToPd t p).stack = s.stack := rfl
@[simp] theorem State.setToPd_sp (s : State) (t p : Bool) : (s.setToPd t p).sp = s.sp := rfl
@[simp] theorem State.setToPd_depth (s : State) (t p : Bool) :
    (s.setToPd t p).depth = s.depth := rfl
@[simp] theorem State.setToPd_status (s : State) (t p : Bool) :
    (s.setToPd t p).status = { s.status with toBit := t, pdBit := p } := rfl
@[simp] theorem State.setToPd_pclath (s : State) (t p : Bool) :
    (s.setToPd t p).pclath = s.pclath := rfl
@[simp] theorem State.setToPd_fsr (s : State) (t p : Bool) : (s.setToPd t p).fsr = s.fsr := rfl
@[simp] theorem State.setToPd_intcon (s : State) (t p : Bool) :
    (s.setToPd t p).intcon = s.intcon := rfl
@[simp] theorem State.setToPd_optionReg (s : State) (t p : Bool) :
    (s.setToPd t p).optionReg = s.optionReg := rfl
@[simp] theorem State.setToPd_trisA (s : State) (t p : Bool) :
    (s.setToPd t p).trisA = s.trisA := rfl
@[simp] theorem State.setToPd_trisB (s : State) (t p : Bool) :
    (s.setToPd t p).trisB = s.trisB := rfl
@[simp] theorem State.setToPd_latchA (s : State) (t p : Bool) :
    (s.setToPd t p).latchA = s.latchA := rfl
@[simp] theorem State.setToPd_latchB (s : State) (t p : Bool) :
    (s.setToPd t p).latchB = s.latchB := rfl
@[simp] theorem State.setToPd_pinsA (s : State) (t p : Bool) :
    (s.setToPd t p).pinsA = s.pinsA := rfl
@[simp] theorem State.setToPd_pinsB (s : State) (t p : Bool) :
    (s.setToPd t p).pinsB = s.pinsB := rfl
@[simp] theorem State.setToPd_tmr0 (s : State) (t p : Bool) : (s.setToPd t p).tmr0 = s.tmr0 := rfl
@[simp] theorem State.setToPd_prescaler (s : State) (t p : Bool) :
    (s.setToPd t p).prescaler = s.prescaler := rfl
@[simp] theorem State.setToPd_wdt (s : State) (t p : Bool) : (s.setToPd t p).wdt = s.wdt := rfl
@[simp] theorem State.setToPd_eedata (s : State) (t p : Bool) :
    (s.setToPd t p).eedata = s.eedata := rfl
@[simp] theorem State.setToPd_eeadr (s : State) (t p : Bool) :
    (s.setToPd t p).eeadr = s.eeadr := rfl
@[simp] theorem State.setToPd_eecon1 (s : State) (t p : Bool) :
    (s.setToPd t p).eecon1 = s.eecon1 := rfl
@[simp] theorem State.setToPd_eecon2 (s : State) (t p : Bool) :
    (s.setToPd t p).eecon2 = s.eecon2 := rfl
@[simp] theorem State.setToPd_ram (s : State) (t p : Bool) : (s.setToPd t p).ram = s.ram := rfl
@[simp] theorem State.setToPd_prog (s : State) (t p : Bool) : (s.setToPd t p).prog = s.prog := rfl
@[simp] theorem State.setToPd_sleeping (s : State) (t p : Bool) :
    (s.setToPd t p).sleeping = s.sleeping := rfl
@[simp] theorem State.setToPd_cycles (s : State) (t p : Bool) :
    (s.setToPd t p).cycles = s.cycles := rfl
@[simp] theorem State.setToPd_sleepTime (s : State) (t p : Bool) :
    (s.setToPd t p).sleepTime = s.sleepTime := rfl
@[simp] theorem State.setToPd_wdtClearedAt (s : State) (t p : Bool) :
    (s.setToPd t p).wdtClearedAt = s.wdtClearedAt := rfl
@[simp] theorem State.setToPd_inputs (s : State) (t p : Bool) :
    (s.setToPd t p).inputs = s.inputs := rfl

@[simp] theorem State.writeTmr0_cfg (s : State) (v : Byte) : (s.writeTmr0 v).cfg = s.cfg := rfl
@[simp] theorem State.writeTmr0_w (s : State) (v : Byte) : (s.writeTmr0 v).w = s.w := rfl
@[simp] theorem State.writeTmr0_pc (s : State) (v : Byte) : (s.writeTmr0 v).pc = s.pc := rfl
@[simp] theorem State.writeTmr0_stack (s : State) (v : Byte) :
    (s.writeTmr0 v).stack = s.stack := rfl
@[simp] theorem State.writeTmr0_sp (s : State) (v : Byte) : (s.writeTmr0 v).sp = s.sp := rfl
@[simp] theorem State.writeTmr0_depth (s : State) (v : Byte) :
    (s.writeTmr0 v).depth = s.depth := rfl
@[simp] theorem State.writeTmr0_status (s : State) (v : Byte) :
    (s.writeTmr0 v).status = s.status := rfl
@[simp] theorem State.writeTmr0_pclath (s : State) (v : Byte) :
    (s.writeTmr0 v).pclath = s.pclath := rfl
@[simp] theorem State.writeTmr0_fsr (s : State) (v : Byte) : (s.writeTmr0 v).fsr = s.fsr := rfl
@[simp] theorem State.writeTmr0_intcon (s : State) (v : Byte) :
    (s.writeTmr0 v).intcon = s.intcon := rfl
@[simp] theorem State.writeTmr0_optionReg (s : State) (v : Byte) :
    (s.writeTmr0 v).optionReg = s.optionReg := rfl
@[simp] theorem State.writeTmr0_trisA (s : State) (v : Byte) :
    (s.writeTmr0 v).trisA = s.trisA := rfl
@[simp] theorem State.writeTmr0_trisB (s : State) (v : Byte) :
    (s.writeTmr0 v).trisB = s.trisB := rfl
@[simp] theorem State.writeTmr0_latchA (s : State) (v : Byte) :
    (s.writeTmr0 v).latchA = s.latchA := rfl
@[simp] theorem State.writeTmr0_latchB (s : State) (v : Byte) :
    (s.writeTmr0 v).latchB = s.latchB := rfl
@[simp] theorem State.writeTmr0_pinsA (s : State) (v : Byte) :
    (s.writeTmr0 v).pinsA = s.pinsA := rfl
@[simp] theorem State.writeTmr0_pinsB (s : State) (v : Byte) :
    (s.writeTmr0 v).pinsB = s.pinsB := rfl
@[simp] theorem State.writeTmr0_tmr0 (s : State) (v : Byte) : (s.writeTmr0 v).tmr0 = v := rfl
@[simp] theorem State.writeTmr0_prescaler (s : State) (v : Byte) :
    (s.writeTmr0 v).prescaler = if s.psa then s.prescaler else 0x00#8 := rfl
@[simp] theorem State.writeTmr0_wdt (s : State) (v : Byte) : (s.writeTmr0 v).wdt = s.wdt := rfl
@[simp] theorem State.writeTmr0_eedata (s : State) (v : Byte) :
    (s.writeTmr0 v).eedata = s.eedata := rfl
@[simp] theorem State.writeTmr0_eeadr (s : State) (v : Byte) :
    (s.writeTmr0 v).eeadr = s.eeadr := rfl
@[simp] theorem State.writeTmr0_eecon1 (s : State) (v : Byte) :
    (s.writeTmr0 v).eecon1 = s.eecon1 := rfl
@[simp] theorem State.writeTmr0_eecon2 (s : State) (v : Byte) :
    (s.writeTmr0 v).eecon2 = s.eecon2 := rfl
@[simp] theorem State.writeTmr0_ram (s : State) (v : Byte) : (s.writeTmr0 v).ram = s.ram := rfl
@[simp] theorem State.writeTmr0_prog (s : State) (v : Byte) : (s.writeTmr0 v).prog = s.prog := rfl
@[simp] theorem State.writeTmr0_sleeping (s : State) (v : Byte) :
    (s.writeTmr0 v).sleeping = s.sleeping := rfl
@[simp] theorem State.writeTmr0_cycles (s : State) (v : Byte) :
    (s.writeTmr0 v).cycles = s.cycles := rfl
@[simp] theorem State.writeTmr0_sleepTime (s : State) (v : Byte) :
    (s.writeTmr0 v).sleepTime = s.sleepTime := rfl
@[simp] theorem State.writeTmr0_wdtClearedAt (s : State) (v : Byte) :
    (s.writeTmr0 v).wdtClearedAt = s.wdtClearedAt := rfl
@[simp] theorem State.writeTmr0_inputs (s : State) (v : Byte) :
    (s.writeTmr0 v).inputs = s.inputs := rfl

@[simp] theorem State.wakeUp_cfg (s : State) : s.wakeUp.cfg = s.cfg := rfl
@[simp] theorem State.wakeUp_w (s : State) : s.wakeUp.w = s.w := rfl
@[simp] theorem State.wakeUp_pc (s : State) : s.wakeUp.pc = s.pc := rfl
@[simp] theorem State.wakeUp_stack (s : State) : s.wakeUp.stack = s.stack := rfl
@[simp] theorem State.wakeUp_sp (s : State) : s.wakeUp.sp = s.sp := rfl
@[simp] theorem State.wakeUp_depth (s : State) : s.wakeUp.depth = s.depth := rfl
@[simp] theorem State.wakeUp_status (s : State) : s.wakeUp.status = s.status := rfl
@[simp] theorem State.wakeUp_pclath (s : State) : s.wakeUp.pclath = s.pclath := rfl
@[simp] theorem State.wakeUp_fsr (s : State) : s.wakeUp.fsr = s.fsr := rfl
@[simp] theorem State.wakeUp_intcon (s : State) : s.wakeUp.intcon = s.intcon := rfl
@[simp] theorem State.wakeUp_optionReg (s : State) : s.wakeUp.optionReg = s.optionReg := rfl
@[simp] theorem State.wakeUp_trisA (s : State) : s.wakeUp.trisA = s.trisA := rfl
@[simp] theorem State.wakeUp_trisB (s : State) : s.wakeUp.trisB = s.trisB := rfl
@[simp] theorem State.wakeUp_latchA (s : State) : s.wakeUp.latchA = s.latchA := rfl
@[simp] theorem State.wakeUp_latchB (s : State) : s.wakeUp.latchB = s.latchB := rfl
@[simp] theorem State.wakeUp_pinsA (s : State) : s.wakeUp.pinsA = s.pinsA := rfl
@[simp] theorem State.wakeUp_pinsB (s : State) : s.wakeUp.pinsB = s.pinsB := rfl
@[simp] theorem State.wakeUp_tmr0 (s : State) : s.wakeUp.tmr0 = s.tmr0 := rfl
@[simp] theorem State.wakeUp_prescaler (s : State) : s.wakeUp.prescaler = s.prescaler := rfl
@[simp] theorem State.wakeUp_wdt (s : State) : s.wakeUp.wdt = s.wdt := rfl
@[simp] theorem State.wakeUp_eedata (s : State) : s.wakeUp.eedata = s.eedata := rfl
@[simp] theorem State.wakeUp_eeadr (s : State) : s.wakeUp.eeadr = s.eeadr := rfl
@[simp] theorem State.wakeUp_eecon1 (s : State) : s.wakeUp.eecon1 = s.eecon1 := rfl
@[simp] theorem State.wakeUp_eecon2 (s : State) : s.wakeUp.eecon2 = s.eecon2 := rfl
@[simp] theorem State.wakeUp_ram (s : State) : s.wakeUp.ram = s.ram := rfl
@[simp] theorem State.wakeUp_prog (s : State) : s.wakeUp.prog = s.prog := rfl
@[simp] theorem State.wakeUp_sleeping (s : State) : s.wakeUp.sleeping = false := rfl
@[simp] theorem State.wakeUp_cycles (s : State) : s.wakeUp.cycles = s.cycles := rfl
@[simp] theorem State.wakeUp_sleepTime (s : State) : s.wakeUp.sleepTime = s.sleepTime := rfl
@[simp] theorem State.wakeUp_wdtClearedAt (s : State) :
    s.wakeUp.wdtClearedAt = s.wdtClearedAt := rfl
@[simp] theorem State.wakeUp_inputs (s : State) : s.wakeUp.inputs = s.inputs := rfl

@[simp] theorem State.sleepFor_cfg (s : State) (n : Nat) : (s.sleepFor n).cfg = s.cfg := rfl
@[simp] theorem State.sleepFor_w (s : State) (n : Nat) : (s.sleepFor n).w = s.w := rfl
@[simp] theorem State.sleepFor_pc (s : State) (n : Nat) : (s.sleepFor n).pc = s.pc := rfl
@[simp] theorem State.sleepFor_stack (s : State) (n : Nat) : (s.sleepFor n).stack = s.stack := rfl
@[simp] theorem State.sleepFor_sp (s : State) (n : Nat) : (s.sleepFor n).sp = s.sp := rfl
@[simp] theorem State.sleepFor_depth (s : State) (n : Nat) : (s.sleepFor n).depth = s.depth := rfl
@[simp] theorem State.sleepFor_status (s : State) (n : Nat) :
    (s.sleepFor n).status = s.status := rfl
@[simp] theorem State.sleepFor_pclath (s : State) (n : Nat) :
    (s.sleepFor n).pclath = s.pclath := rfl
@[simp] theorem State.sleepFor_fsr (s : State) (n : Nat) : (s.sleepFor n).fsr = s.fsr := rfl
@[simp] theorem State.sleepFor_intcon (s : State) (n : Nat) :
    (s.sleepFor n).intcon = s.intcon := rfl
@[simp] theorem State.sleepFor_optionReg (s : State) (n : Nat) :
    (s.sleepFor n).optionReg = s.optionReg := rfl
@[simp] theorem State.sleepFor_trisA (s : State) (n : Nat) : (s.sleepFor n).trisA = s.trisA := rfl
@[simp] theorem State.sleepFor_trisB (s : State) (n : Nat) : (s.sleepFor n).trisB = s.trisB := rfl
@[simp] theorem State.sleepFor_latchA (s : State) (n : Nat) :
    (s.sleepFor n).latchA = s.latchA := rfl
@[simp] theorem State.sleepFor_latchB (s : State) (n : Nat) :
    (s.sleepFor n).latchB = s.latchB := rfl
@[simp] theorem State.sleepFor_pinsA (s : State) (n : Nat) : (s.sleepFor n).pinsA = s.pinsA := rfl
@[simp] theorem State.sleepFor_pinsB (s : State) (n : Nat) : (s.sleepFor n).pinsB = s.pinsB := rfl
@[simp] theorem State.sleepFor_tmr0 (s : State) (n : Nat) : (s.sleepFor n).tmr0 = s.tmr0 := rfl
@[simp] theorem State.sleepFor_prescaler (s : State) (n : Nat) :
    (s.sleepFor n).prescaler = s.prescaler := rfl
@[simp] theorem State.sleepFor_wdt (s : State) (n : Nat) : (s.sleepFor n).wdt = s.wdt := rfl
@[simp] theorem State.sleepFor_eedata (s : State) (n : Nat) :
    (s.sleepFor n).eedata = s.eedata := rfl
@[simp] theorem State.sleepFor_eeadr (s : State) (n : Nat) : (s.sleepFor n).eeadr = s.eeadr := rfl
@[simp] theorem State.sleepFor_eecon1 (s : State) (n : Nat) :
    (s.sleepFor n).eecon1 = s.eecon1 := rfl
@[simp] theorem State.sleepFor_eecon2 (s : State) (n : Nat) :
    (s.sleepFor n).eecon2 = s.eecon2 := rfl
@[simp] theorem State.sleepFor_ram (s : State) (n : Nat) : (s.sleepFor n).ram = s.ram := rfl
@[simp] theorem State.sleepFor_prog (s : State) (n : Nat) : (s.sleepFor n).prog = s.prog := rfl
@[simp] theorem State.sleepFor_sleeping (s : State) (n : Nat) :
    (s.sleepFor n).sleeping = s.sleeping := rfl
@[simp] theorem State.sleepFor_cycles (s : State) (n : Nat) :
    (s.sleepFor n).cycles = s.cycles := rfl
@[simp] theorem State.sleepFor_sleepTime (s : State) (n : Nat) :
    (s.sleepFor n).sleepTime = if s.sleeping then s.sleepTime + n else s.sleepTime := rfl
@[simp] theorem State.sleepFor_wdtClearedAt (s : State) (n : Nat) :
    (s.sleepFor n).wdtClearedAt = s.wdtClearedAt := rfl
@[simp] theorem State.sleepFor_inputs (s : State) (n : Nat) :
    (s.sleepFor n).inputs = s.inputs := rfl

@[simp] theorem State.takeInput_cfg (s : State) : s.takeInput.cfg = s.cfg := rfl
@[simp] theorem State.takeInput_w (s : State) : s.takeInput.w = s.w := rfl
@[simp] theorem State.takeInput_pc (s : State) : s.takeInput.pc = s.pc := rfl
@[simp] theorem State.takeInput_stack (s : State) : s.takeInput.stack = s.stack := rfl
@[simp] theorem State.takeInput_sp (s : State) : s.takeInput.sp = s.sp := rfl
@[simp] theorem State.takeInput_depth (s : State) : s.takeInput.depth = s.depth := rfl
@[simp] theorem State.takeInput_status (s : State) : s.takeInput.status = s.status := rfl
@[simp] theorem State.takeInput_pclath (s : State) : s.takeInput.pclath = s.pclath := rfl
@[simp] theorem State.takeInput_fsr (s : State) : s.takeInput.fsr = s.fsr := rfl
@[simp] theorem State.takeInput_intcon (s : State) : s.takeInput.intcon = s.intcon := rfl
@[simp] theorem State.takeInput_optionReg (s : State) : s.takeInput.optionReg = s.optionReg := rfl
@[simp] theorem State.takeInput_trisA (s : State) : s.takeInput.trisA = s.trisA := rfl
@[simp] theorem State.takeInput_trisB (s : State) : s.takeInput.trisB = s.trisB := rfl
@[simp] theorem State.takeInput_latchA (s : State) : s.takeInput.latchA = s.latchA := rfl
@[simp] theorem State.takeInput_latchB (s : State) : s.takeInput.latchB = s.latchB := rfl
@[simp] theorem State.takeInput_pinsA (s : State) : s.takeInput.pinsA = s.boundaryInput.pinsA := rfl
@[simp] theorem State.takeInput_pinsB (s : State) : s.takeInput.pinsB = s.boundaryInput.pinsB := rfl
@[simp] theorem State.takeInput_tmr0 (s : State) : s.takeInput.tmr0 = s.tmr0 := rfl
@[simp] theorem State.takeInput_prescaler (s : State) : s.takeInput.prescaler = s.prescaler := rfl
@[simp] theorem State.takeInput_wdt (s : State) : s.takeInput.wdt = s.wdt := rfl
@[simp] theorem State.takeInput_eedata (s : State) : s.takeInput.eedata = s.eedata := rfl
@[simp] theorem State.takeInput_eeadr (s : State) : s.takeInput.eeadr = s.eeadr := rfl
@[simp] theorem State.takeInput_eecon1 (s : State) : s.takeInput.eecon1 = s.eecon1 := rfl
@[simp] theorem State.takeInput_eecon2 (s : State) : s.takeInput.eecon2 = s.eecon2 := rfl
@[simp] theorem State.takeInput_ram (s : State) : s.takeInput.ram = s.ram := rfl
@[simp] theorem State.takeInput_prog (s : State) : s.takeInput.prog = s.prog := rfl
@[simp] theorem State.takeInput_sleeping (s : State) : s.takeInput.sleeping = s.sleeping := rfl
@[simp] theorem State.takeInput_cycles (s : State) : s.takeInput.cycles = s.cycles := rfl
@[simp] theorem State.takeInput_sleepTime (s : State) : s.takeInput.sleepTime = s.sleepTime := rfl
@[simp] theorem State.takeInput_wdtClearedAt (s : State) :
    s.takeInput.wdtClearedAt = s.wdtClearedAt := rfl
@[simp] theorem State.takeInput_inputs (s : State) : s.takeInput.inputs = s.inputs.tail := rfl

@[simp] theorem State.loadWord_cfg (s : State) (a : ProgAddr) (w : ProgWord) :
    (s.loadWord a w).cfg = s.cfg := rfl
@[simp] theorem State.loadWord_w (s : State) (a : ProgAddr) (w : ProgWord) :
    (s.loadWord a w).w = s.w := rfl
@[simp] theorem State.loadWord_pc (s : State) (a : ProgAddr) (w : ProgWord) :
    (s.loadWord a w).pc = s.pc := rfl
@[simp] theorem State.loadWord_stack (s : State) (a : ProgAddr) (w : ProgWord) :
    (s.loadWord a w).stack = s.stack := rfl
@[simp] theorem State.loadWord_sp (s : State) (a : ProgAddr) (w : ProgWord) :
    (s.loadWord a w).sp = s.sp := rfl
@[simp] theorem State.loadWord_depth (s : State) (a : ProgAddr) (w : ProgWord) :
    (s.loadWord a w).depth = s.depth := rfl
@[simp] theorem State.loadWord_status (s : State) (a : ProgAddr) (w : ProgWord) :
    (s.loadWord a w).status = s.status := rfl
@[simp] theorem State.loadWord_pclath (s : State) (a : ProgAddr) (w : ProgWord) :
    (s.loadWord a w).pclath = s.pclath := rfl
@[simp] theorem State.loadWord_fsr (s : State) (a : ProgAddr) (w : ProgWord) :
    (s.loadWord a w).fsr = s.fsr := rfl
@[simp] theorem State.loadWord_intcon (s : State) (a : ProgAddr) (w : ProgWord) :
    (s.loadWord a w).intcon = s.intcon := rfl
@[simp] theorem State.loadWord_optionReg (s : State) (a : ProgAddr) (w : ProgWord) :
    (s.loadWord a w).optionReg = s.optionReg := rfl
@[simp] theorem State.loadWord_trisA (s : State) (a : ProgAddr) (w : ProgWord) :
    (s.loadWord a w).trisA = s.trisA := rfl
@[simp] theorem State.loadWord_trisB (s : State) (a : ProgAddr) (w : ProgWord) :
    (s.loadWord a w).trisB = s.trisB := rfl
@[simp] theorem State.loadWord_latchA (s : State) (a : ProgAddr) (w : ProgWord) :
    (s.loadWord a w).latchA = s.latchA := rfl
@[simp] theorem State.loadWord_latchB (s : State) (a : ProgAddr) (w : ProgWord) :
    (s.loadWord a w).latchB = s.latchB := rfl
@[simp] theorem State.loadWord_pinsA (s : State) (a : ProgAddr) (w : ProgWord) :
    (s.loadWord a w).pinsA = s.pinsA := rfl
@[simp] theorem State.loadWord_pinsB (s : State) (a : ProgAddr) (w : ProgWord) :
    (s.loadWord a w).pinsB = s.pinsB := rfl
@[simp] theorem State.loadWord_tmr0 (s : State) (a : ProgAddr) (w : ProgWord) :
    (s.loadWord a w).tmr0 = s.tmr0 := rfl
@[simp] theorem State.loadWord_prescaler (s : State) (a : ProgAddr) (w : ProgWord) :
    (s.loadWord a w).prescaler = s.prescaler := rfl
@[simp] theorem State.loadWord_wdt (s : State) (a : ProgAddr) (w : ProgWord) :
    (s.loadWord a w).wdt = s.wdt := rfl
@[simp] theorem State.loadWord_eedata (s : State) (a : ProgAddr) (w : ProgWord) :
    (s.loadWord a w).eedata = s.eedata := rfl
@[simp] theorem State.loadWord_eeadr (s : State) (a : ProgAddr) (w : ProgWord) :
    (s.loadWord a w).eeadr = s.eeadr := rfl
@[simp] theorem State.loadWord_eecon1 (s : State) (a : ProgAddr) (w : ProgWord) :
    (s.loadWord a w).eecon1 = s.eecon1 := rfl
@[simp] theorem State.loadWord_eecon2 (s : State) (a : ProgAddr) (w : ProgWord) :
    (s.loadWord a w).eecon2 = s.eecon2 := rfl
@[simp] theorem State.loadWord_ram (s : State) (a : ProgAddr) (w : ProgWord) :
    (s.loadWord a w).ram = s.ram := rfl
@[simp] theorem State.loadWord_prog (s : State) (a : ProgAddr) (w : ProgWord) :
    (s.loadWord a w).prog = setCell (a.toNat % s.cfg.progWords) w s.prog := rfl
@[simp] theorem State.loadWord_sleeping (s : State) (a : ProgAddr) (w : ProgWord) :
    (s.loadWord a w).sleeping = s.sleeping := rfl
@[simp] theorem State.loadWord_cycles (s : State) (a : ProgAddr) (w : ProgWord) :
    (s.loadWord a w).cycles = s.cycles := rfl
@[simp] theorem State.loadWord_sleepTime (s : State) (a : ProgAddr) (w : ProgWord) :
    (s.loadWord a w).sleepTime = s.sleepTime := rfl
@[simp] theorem State.loadWord_wdtClearedAt (s : State) (a : ProgAddr) (w : ProgWord) :
    (s.loadWord a w).wdtClearedAt = s.wdtClearedAt := rfl
@[simp] theorem State.loadWord_inputs (s : State) (a : ProgAddr) (w : ProgWord) :
    (s.loadWord a w).inputs = s.inputs := rfl

@[simp] theorem State.advance_fileReg (s : State) (d : DataAddr) :
    s.advance.fileReg d = s.fileReg d := rfl
@[simp] theorem State.skipIf_fileReg (s : State) (b : Bool) (d : DataAddr) :
    (s.skipIf b).fileReg d = s.fileReg d := rfl
@[simp] theorem State.jump_fileReg (s : State) (t : ProgAddr) (d : DataAddr) :
    (s.jump t).fileReg d = s.fileReg d := rfl
@[simp] theorem State.endWrite_fileReg (s : State) (r : FileReg) (d : DataAddr) :
    (s.endWrite r).fileReg d = s.fileReg d := rfl
@[simp] theorem State.setFlags_fileReg (s : State) (u : FlagUpdate) (d : DataAddr) :
    (s.setFlags u).fileReg d = s.fileReg d := rfl
@[simp] theorem State.setGie_fileReg (s : State) (b : Bool) (d : DataAddr) :
    (s.setGie b).fileReg d = s.fileReg d := rfl
@[simp] theorem State.clearWdt_fileReg (s : State) (d : DataAddr) :
    s.clearWdt.fileReg d = s.fileReg d := rfl
@[simp] theorem State.setToPd_fileReg (s : State) (t p : Bool) (d : DataAddr) :
    (s.setToPd t p).fileReg d = s.fileReg d := rfl
@[simp] theorem State.writeTmr0_fileReg (s : State) (v : Byte) (d : DataAddr) :
    (s.writeTmr0 v).fileReg d = s.fileReg d := rfl
@[simp] theorem State.wakeUp_fileReg (s : State) (d : DataAddr) :
    s.wakeUp.fileReg d = s.fileReg d := rfl
@[simp] theorem State.sleepFor_fileReg (s : State) (n : Nat) (d : DataAddr) :
    (s.sleepFor n).fileReg d = s.fileReg d := rfl
@[simp] theorem State.takeInput_fileReg (s : State) (d : DataAddr) :
    s.takeInput.fileReg d = s.fileReg d := rfl
@[simp] theorem State.loadWord_fileReg (s : State) (a : ProgAddr) (w : ProgWord) (d : DataAddr) :
    (s.loadWord a w).fileReg d = s.fileReg d := rfl

/-! ### The flag updates -/

@[simp] theorem noFlags_affects : noFlags.affects = false := rfl
@[simp] theorem zFlag_affects (r : Byte) : (zFlag r).affects = true := rfl
@[simp] theorem cFlag_affects (c : Bool) : (cFlag c).affects = true := rfl
@[simp] theorem aluFlags_affects (r : AluResult) : (aluFlags r).affects = true := rfl

@[simp] theorem noFlags_apply (st : Status) : noFlags.apply st = st := rfl
@[simp] theorem zFlag_apply (r : Byte) (st : Status) :
    (zFlag r).apply st = { st with z := isZero r } := rfl
@[simp] theorem cFlag_apply (c : Bool) (st : Status) :
    (cFlag c).apply st = { st with c := c } := rfl
@[simp] theorem aluFlags_apply (r : AluResult) (st : Status) :
    (aluFlags r).apply st = { st with c := r.c, dc := r.dc, z := r.z } := rfl

/-- Writing status bits never touches TO, PD and the bank bits. -/
theorem FlagUpdate.apply_frame (u : FlagUpdate) (st : Status) :
    (u.apply st).toBit = st.toBit ∧ (u.apply st).pdBit = st.pdBit ∧ (u.apply st).irp = st.irp ∧
      (u.apply st).rp1 = st.rp1 ∧ (u.apply st).rp0 = st.rp0 :=
  ⟨rfl, rfl, rfl, rfl, rfl⟩

/-- A file write of STATUS never touches TO and PD (rule R32). -/
theorem Status.write_toPd (l : StatusLayout) (flagged : Bool) (v : Byte) (st : Status) :
    (st.write l flagged v).toBit = st.toBit ∧ (st.write l flagged v).pdBit = st.pdBit :=
  ⟨rfl, rfl⟩

end Sys2Proof.Machine
end

