-- ==== Sys2Proof/Laws/Operands.lean ====
section
/-! SUPPORT. What a write of a file register leaves alone, and what it keeps. -/

namespace Sys2Proof.Machine

/-! ### Fields no file write touches -/

@[simp] theorem State.writeReg_cfg (s : State) (r : FileReg) (v : Byte) (fl : Bool) :
    (s.writeReg r v fl).cfg = s.cfg := by
  unfold State.writeReg; split <;> rfl

@[simp] theorem State.writeReg_w (s : State) (r : FileReg) (v : Byte) (fl : Bool) :
    (s.writeReg r v fl).w = s.w := by
  unfold State.writeReg; split <;> rfl

@[simp] theorem State.writeReg_stack (s : State) (r : FileReg) (v : Byte) (fl : Bool) :
    (s.writeReg r v fl).stack = s.stack := by
  unfold State.writeReg; split <;> rfl

@[simp] theorem State.writeReg_sp (s : State) (r : FileReg) (v : Byte) (fl : Bool) :
    (s.writeReg r v fl).sp = s.sp := by
  unfold State.writeReg; split <;> rfl

@[simp] theorem State.writeReg_depth (s : State) (r : FileReg) (v : Byte) (fl : Bool) :
    (s.writeReg r v fl).depth = s.depth := by
  unfold State.writeReg; split <;> rfl

@[simp] theorem State.writeReg_pinsA (s : State) (r : FileReg) (v : Byte) (fl : Bool) :
    (s.writeReg r v fl).pinsA = s.pinsA := by
  unfold State.writeReg; split <;> rfl

@[simp] theorem State.writeReg_pinsB (s : State) (r : FileReg) (v : Byte) (fl : Bool) :
    (s.writeReg r v fl).pinsB = s.pinsB := by
  unfold State.writeReg; split <;> rfl

@[simp] theorem State.writeReg_wdt (s : State) (r : FileReg) (v : Byte) (fl : Bool) :
    (s.writeReg r v fl).wdt = s.wdt := by
  unfold State.writeReg; split <;> rfl

@[simp] theorem State.writeReg_prog (s : State) (r : FileReg) (v : Byte) (fl : Bool) :
    (s.writeReg r v fl).prog = s.prog := by
  unfold State.writeReg; split <;> rfl

@[simp] theorem State.writeReg_sleeping (s : State) (r : FileReg) (v : Byte) (fl : Bool) :
    (s.writeReg r v fl).sleeping = s.sleeping := by
  unfold State.writeReg; split <;> rfl

@[simp] theorem State.writeReg_cycles (s : State) (r : FileReg) (v : Byte) (fl : Bool) :
    (s.writeReg r v fl).cycles = s.cycles := by
  unfold State.writeReg; split <;> rfl

@[simp] theorem State.writeReg_sleepTime (s : State) (r : FileReg) (v : Byte) (fl : Bool) :
    (s.writeReg r v fl).sleepTime = s.sleepTime := by
  unfold State.writeReg; split <;> rfl

@[simp] theorem State.writeReg_wdtClearedAt (s : State) (r : FileReg) (v : Byte) (fl : Bool) :
    (s.writeReg r v fl).wdtClearedAt = s.wdtClearedAt := by
  unfold State.writeReg; split <;> rfl

@[simp] theorem State.writeReg_inputs (s : State) (r : FileReg) (v : Byte) (fl : Bool) :
    (s.writeReg r v fl).inputs = s.inputs := by
  unfold State.writeReg; split <;> rfl

@[simp] theorem State.writeReg_fileReg (s : State) (r : FileReg) (v : Byte) (fl : Bool)
    (b : DataAddr) : (s.writeReg r v fl).fileReg b = s.fileReg b := by
  simp [State.fileReg]

/-! ### Fields only one register's write touches -/

theorem State.writeReg_pc {s : State} {r : FileReg} (v : Byte) (fl : Bool)
    (h : r ≠ .pcl) : (s.writeReg r v fl).pc = s.pc := by
  unfold State.writeReg; split <;> first | rfl | exact absurd rfl h

theorem State.writeReg_status {s : State} {r : FileReg} (v : Byte) (fl : Bool)
    (h : r ≠ .status) : (s.writeReg r v fl).status = s.status := by
  unfold State.writeReg; split <;> first | rfl | exact absurd rfl h

theorem State.writeReg_pclath {s : State} {r : FileReg} (v : Byte) (fl : Bool)
    (h : r ≠ .pclath) : (s.writeReg r v fl).pclath = s.pclath := by
  unfold State.writeReg; split <;> first | rfl | exact absurd rfl h

theorem State.writeReg_fsr {s : State} {r : FileReg} (v : Byte) (fl : Bool)
    (h : r ≠ .fsr) : (s.writeReg r v fl).fsr = s.fsr := by
  unfold State.writeReg; split <;> first | rfl | exact absurd rfl h

theorem State.writeReg_intcon {s : State} {r : FileReg} (v : Byte) (fl : Bool)
    (h : r ≠ .intcon) : (s.writeReg r v fl).intcon = s.intcon := by
  unfold State.writeReg; split <;> first | rfl | exact absurd rfl h

theorem State.writeReg_optionReg {s : State} {r : FileReg} (v : Byte) (fl : Bool)
    (h : r ≠ .optionReg) : (s.writeReg r v fl).optionReg = s.optionReg := by
  unfold State.writeReg; split <;> first | rfl | exact absurd rfl h

theorem State.writeReg_trisA {s : State} {r : FileReg} (v : Byte) (fl : Bool)
    (h : r ≠ .trisA) : (s.writeReg r v fl).trisA = s.trisA := by
  unfold State.writeReg; split <;> first | rfl | exact absurd rfl h

theorem State.writeReg_trisB {s : State} {r : FileReg} (v : Byte) (fl : Bool)
    (h : r ≠ .trisB) : (s.writeReg r v fl).trisB = s.trisB := by
  unfold State.writeReg; split <;> first | rfl | exact absurd rfl h

theorem State.writeReg_latchA {s : State} {r : FileReg} (v : Byte) (fl : Bool)
    (h : r ≠ .portA) : (s.writeReg r v fl).latchA = s.latchA := by
  unfold State.writeReg; split <;> first | rfl | exact absurd rfl h

theorem State.writeReg_latchB {s : State} {r : FileReg} (v : Byte) (fl : Bool)
    (h : r ≠ .portB) : (s.writeReg r v fl).latchB = s.latchB := by
  unfold State.writeReg; split <;> first | rfl | exact absurd rfl h

theorem State.writeReg_tmr0 {s : State} {r : FileReg} (v : Byte) (fl : Bool)
    (h : r ≠ .tmr0) : (s.writeReg r v fl).tmr0 = s.tmr0 := by
  unfold State.writeReg; split <;> first | rfl | exact absurd rfl h

theorem State.writeReg_prescaler {s : State} {r : FileReg} (v : Byte) (fl : Bool)
    (h : r ≠ .tmr0) : (s.writeReg r v fl).prescaler = s.prescaler := by
  unfold State.writeReg; split <;> first | rfl | exact absurd rfl h

theorem State.writeReg_eedata {s : State} {r : FileReg} (v : Byte) (fl : Bool)
    (h : r ≠ .eedata) : (s.writeReg r v fl).eedata = s.eedata := by
  unfold State.writeReg; split <;> first | rfl | exact absurd rfl h

theorem State.writeReg_eeadr {s : State} {r : FileReg} (v : Byte) (fl : Bool)
    (h : r ≠ .eeadr) : (s.writeReg r v fl).eeadr = s.eeadr := by
  unfold State.writeReg; split <;> first | rfl | exact absurd rfl h

theorem State.writeReg_eecon1 {s : State} {r : FileReg} (v : Byte) (fl : Bool)
    (h : r ≠ .eecon1) : (s.writeReg r v fl).eecon1 = s.eecon1 := by
  unfold State.writeReg; split <;> first | rfl | exact absurd rfl h

theorem State.writeReg_eecon2 {s : State} {r : FileReg} (v : Byte) (fl : Bool)
    (h : r ≠ .eecon2) : (s.writeReg r v fl).eecon2 = s.eecon2 := by
  unfold State.writeReg; split <;> first | rfl | exact absurd rfl h

/-- A write of a general-purpose register is a write of one cell; any other leaves `ram` alone. -/
theorem State.writeReg_ram (s : State) (r : FileReg) (v : Byte) (fl : Bool) :
    (s.writeReg r v fl).ram =
      match r with
      | .gpr n => writeCell n v s.ram
      | _ => s.ram := by
  cases r <;> rfl

theorem State.readCell_writeReg {s : State} {r : FileReg} (v : Byte) (fl : Bool) {n : Nat}
    (h : r ≠ .gpr n) : readCell n (s.writeReg r v fl).ram = readCell n s.ram := by
  rw [State.writeReg_ram]
  split
  · rw [readCell_writeCell]
    split
    · subst_vars; exact absurd rfl h
    · rfl
  · rfl

/-! ### The register file map -/

/-- The register of an operand is the one at its resolved address. -/
@[simp] theorem State.operand_eq (s : State) (f : FileAddr) :
    s.operand f = s.fileReg (s.resolve f) := rfl

/-- In the default map an address names a general-purpose register only within the device's range. -/
theorem deviceMap_gpr {d : Device} {a : DataAddr} {n : Nat} (h : deviceMap d a = .gpr n) :
    isGpr d n = true ∧ a.toNat % 128 = n := by
  unfold deviceMap at h
  simp only at h
  split at h <;> (try split at h) <;> cases h
  exact ⟨by assumption, rfl⟩

/-- Each general-purpose register of a device stands at its bank-0 address. -/
theorem deviceMap_of_isGpr {d : Device} {n : Nat} (h : isGpr d n = true) :
    deviceMap d (BitVec.ofNat 8 n) = .gpr n := by
  have hn : 0x0C ≤ n ∧ n < 0x50 := by
    simp only [isGpr, Bool.and_eq_true, decide_eq_true_eq] at h
    cases d <;> simp only [gprFirst, gprLast] at h <;> omega
  have hm : (BitVec.ofNat 8 n).toNat % 128 = n := by
    rw [BitVec.toNat_ofNat]; omega
  unfold deviceMap
  simp only [hm]
  split <;> first | omega | simp [h]

/-- An address that a table maps to a register has an entry in it. -/
theorem mem_of_tableReg {l : List (DataAddr × FileReg)} {a : DataAddr} {n : Nat}
    (h : tableReg l a = .gpr n) : ∃ e ∈ l, e.1 = a := by
  induction l with
  | nil => cases h
  | cons e l ih =>
    unfold tableReg at h
    split at h
    · exact ⟨e, List.mem_cons_self, by assumption⟩
    · obtain ⟨e', he, ha⟩ := ih h
      exact ⟨e', List.mem_cons_of_mem _ he, ha⟩

/-- The general-purpose registers of a map are those that an address names. -/
theorem hasGpr_iff {p : Params} {n : Nat} :
    hasGpr p n = true ↔ ∃ a : DataAddr, regAt p a = .gpr n := by
  unfold hasGpr regAt
  split
  · exact ⟨fun h => ⟨_, deviceMap_of_isGpr h⟩, fun ⟨_, h⟩ => (deviceMap_gpr h).1⟩
  · simp only [List.any_eq_true, decide_eq_true_eq]
    constructor
    · rintro ⟨e, -, h⟩
      exact ⟨_, h⟩
    · rintro ⟨a, h⟩
      obtain ⟨e, he, rfl⟩ := mem_of_tableReg h
      exact ⟨e, he, h⟩

/-- A general-purpose register that an address names is one of the map's. -/
theorem hasGpr_of_regAt {p : Params} {a : DataAddr} {n : Nat} (h : regAt p a = .gpr n) :
    hasGpr p n = true :=
  hasGpr_iff.2 ⟨a, h⟩

/-- A write of the register at an address keeps the data memory canonical and within the map. -/
theorem State.writeReg_ram_wf {s : State} (r : FileReg) (v : Byte) (fl : Bool)
    (h : Memory.wf s.ram = true) (hk : (s.ram.all fun c => hasGpr s.cfg c.1) = true)
    (hr : ∀ n, r = .gpr n → hasGpr s.cfg n = true) :
    Memory.wf (s.writeReg r v fl).ram = true ∧
      ((s.writeReg r v fl).ram.all fun c => hasGpr s.cfg c.1) = true := by
  rw [State.writeReg_ram]
  split
  · exact ⟨Memory.wf_writeCell h, all_writeCell _ hk (hr _ rfl)⟩
  · exact ⟨h, hk⟩

/-! ### STATUS and INTCON as bytes -/

theorem Status.write_toByte (st : Status) :
    st.write defaultLayout false (st.toByte defaultLayout) = st := by
  obtain ⟨a, b, c, d, e, f, g, h⟩ := st
  revert a b c d e f g h; decide

theorem Intcon.ofByte_toByte (ic : Intcon) : Intcon.ofByte ic.toByte = ic := by
  obtain ⟨a, b, c, d, e, f, g, h⟩ := ic
  revert a b c d e f g h; decide

theorem Intcon.toByte_ofByte (v : Byte) : (Intcon.ofByte v).toByte = v := by
  revert v; decide

end Sys2Proof.Machine
end

