-- ==== Sys2Proof/Laws/Ops.lean ====
section
/-! SUPPORT. What each shared operation can do, said once. -/

namespace Sys2Proof.Machine

/-! ### The return stack -/

/-- A push that succeeds stores at the pointer and moves it up; only `depth` depends on the policy. -/
theorem State.push_ok {s t : State} {v : ProgAddr} (h : s.push v = .ok t) :
    t = { s with stack := s.stack.set s.sp v, sp := s.spUp, depth := t.depth } ∧
      ((s.cfg.stackPolicy = .wrap ∧ t.depth = s.depth) ∨
        (s.cfg.stackPolicy = .fault ∧ s.depth < s.cfg.stackDepth ∧ t.depth = s.depth + 1)) := by
  unfold State.push at h
  simp only at h
  split at h
  · cases h; exact ⟨rfl, .inl ⟨by assumption, rfl⟩⟩
  · split at h
    · cases h; exact ⟨rfl, .inr ⟨by assumption, by assumption, rfl⟩⟩
    · cases h

/-- A push that is refused met a full stack under the counting policy. -/
theorem State.push_error {s : State} {v : ProgAddr} {r : Refusal} (h : s.push v = .error r) :
    r = .stackOverflow ∧ s.cfg.stackPolicy = .fault ∧ ¬ s.depth < s.cfg.stackDepth := by
  unfold State.push at h
  simp only at h
  split at h
  · cases h
  · split at h
    · cases h
    · cases h; exact ⟨rfl, by assumption, by assumption⟩

/-- A pop that succeeds moves the pointer down; only `depth` depends on the policy. -/
theorem State.pop_ok {s t : State} (h : s.pop = .ok t) :
    t = { s with sp := s.spDown, depth := t.depth } ∧
      ((s.cfg.stackPolicy = .wrap ∧ t.depth = s.depth) ∨
        (s.cfg.stackPolicy = .fault ∧ s.depth ≠ 0 ∧ t.depth = s.depth - 1)) := by
  unfold State.pop at h
  simp only at h
  split at h
  · cases h; exact ⟨rfl, .inl ⟨by assumption, rfl⟩⟩
  · split at h
    · cases h
    · cases h; exact ⟨rfl, .inr ⟨by assumption, by assumption, rfl⟩⟩

/-- A pop that is refused met an empty stack under the counting policy. -/
theorem State.pop_error {s : State} {r : Refusal} (h : s.pop = .error r) :
    r = .stackUnderflow ∧ s.cfg.stackPolicy = .fault ∧ s.depth = 0 := by
  unfold State.pop at h
  simp only at h
  split at h
  · cases h
  · split at h
    · cases h; exact ⟨rfl, by assumption, by assumption⟩
    · cases h

/-- One down from one up is where the pointer was. -/
theorem spDown_spUp {n p : Nat} (h : p < n) : ((p + 1) % n + n - 1) % n = p := by
  obtain h' | h' : p + 1 < n ∨ p + 1 = n := by omega
  · rw [Nat.mod_eq_of_lt h', show p + 1 + n - 1 = p + n by omega, Nat.add_mod_right,
      Nat.mod_eq_of_lt h]
  · rw [h', Nat.mod_self, Nat.zero_add, Nat.mod_eq_of_lt (by omega)]; omega

/-- The top of the stack after a push is the value pushed. -/
theorem State.tos_push {s t : State} {v : ProgAddr} (hl : s.stack.length = s.cfg.stackDepth)
    (hp : s.sp < s.cfg.stackDepth) (h : s.push v = .ok t) : t.tos = v := by
  rw [(State.push_ok h).1]
  simp [State.tos, State.spDown, State.spUp, spDown_spUp hp, List.getD, hl, hp]

/-- What pushing and going elsewhere answers. -/
theorem State.pushAndJump_next {s t : State} {v a : ProgAddr} (h : s.pushAndJump v a = .next t) :
    ∃ u, s.push v = .ok u ∧ t = u.jump a := by
  unfold State.pushAndJump at h
  split at h
  · cases h; exact ⟨_, by assumption, rfl⟩
  · cases h

/-- What popping the PC answers. -/
theorem State.popAndJump_next {s t : State} (h : s.popAndJump = .next t) :
    ∃ u, s.pop = .ok u ∧ t = u.jump s.tos := by
  unfold State.popAndJump at h
  split at h
  · cases h; exact ⟨_, by assumption, rfl⟩
  · cases h

/-- Interrupt entry answers a next state whenever the push goes through. -/
theorem State.interruptEntry_next {s t : State} (h : s.interruptEntry = .next t) :
    ∃ u, (s.setGie false).push s.pc = .ok u ∧ t = u.jump s.cfg.intVector :=
  State.pushAndJump_next h

/-- The return from interrupt answers a next state whenever the pop goes through. -/
theorem State.returnFromInterrupt_next {s t : State} (h : s.returnFromInterrupt = .next t) :
    ∃ u, (s.setGie true).pop = .ok u ∧ t = u.jump s.tos :=
  State.popAndJump_next h

/-! ### The destination of a result -/

/-- A result goes to W or to the file register, never to both. -/
theorem State.toDest_cases (s : State) (d : Dest) (r : FileReg) (v : Byte) (u : FlagUpdate) :
    (d = .w ∧ s.toDest d r v u = s.toW v u) ∨ (d = .f ∧ s.toDest d r v u = s.toFile r v u) := by
  cases d
  · exact .inl ⟨rfl, rfl⟩
  · exact .inr ⟨rfl, rfl⟩

/-- A result with a skip: to W, to a file register other than PCL, or refused. -/
theorem State.toDestSkipZero_cases (s : State) (d : Dest) (r : FileReg) (v : Byte) :
    (d = .w ∧ s.toDestSkipZero d r v = .next ({ s with w := v }.skipIf (isZero v))) ∨
      (d = .f ∧ r ≠ .pcl ∧
        s.toDestSkipZero d r v = .next ((s.writeReg r v false).skipIf (isZero v))) ∨
      (d = .f ∧ r = .pcl ∧ s.toDestSkipZero d r v = .refused .skipWithPclDestination) := by
  cases d
  · exact .inl ⟨rfl, rfl⟩
  · by_cases h : r = .pcl
    · exact .inr (.inr ⟨rfl, h, by subst h; rfl⟩)
    · exact .inr (.inl ⟨rfl, h, by cases r <;> first | rfl | exact absurd rfl h⟩)

/-! ### The fetch -/

/-- A fetched word is the one loaded at the PC modulo `PROG_WORDS`. -/
theorem State.fetch_ok {s : State} {w : ProgWord} (h : s.fetch = .ok w) :
    cellAt (s.pc.toNat % s.cfg.progWords) s.prog = some w := by
  unfold State.fetch at h
  split at h
  · cases h; assumption
  · cases h

/-- A fetch that is refused found nothing loaded. -/
theorem State.fetch_error {s : State} {r : Refusal} (h : s.fetch = .error r) :
    r = .fetchOutsideImage s.pc ∧
      cellAt (s.pc.toNat % s.cfg.progWords) s.prog = none := by
  unfold State.fetch at h
  split at h
  · cases h
  · cases h; exact ⟨rfl, by assumption⟩

/-- A loaded word is fetched. -/
theorem State.fetch_loadWord (s : State) (w : ProgWord) : (s.loadWord s.pc w).fetch = .ok w := by
  simp [State.fetch, cellAt_setCell]

/-- Loading a word keeps the program memory in rising order. -/
theorem State.loadWord_rises {s : State} (a : ProgAddr) (w : ProgWord)
    (h : cellsRise s.prog = true) : cellsRise (s.loadWord a w).prog = true :=
  cellsRise_setCell h

/-! ### The arithmetic -/

theorem add8_value (a b : Byte) : (add8 a b).value = a + b := rfl

theorem sub8_value (a b : Byte) : (sub8 a b).value = a - b := by
  apply BitVec.eq_of_toNat_eq
  simp only [sub8, BitVec.toNat_ofNat, BitVec.toNat_sub]
  have := a.isLt
  have := b.isLt
  omega

end Sys2Proof.Machine
end

