-- ==== Sys2Proof/Laws/Events.lean ====
section
/-! SUPPORT. What the environment's events can do, and what a step can do, said once. -/

namespace Sys2Proof.Machine

/-- The general-purpose registers of a draw are canonical and within the map. -/
theorem loadGprs_wf (p : Params) (cells : List Host.Cell) :
    Memory.wf (loadGprs p cells) = true ∧
      ((loadGprs p cells).all fun c => hasGpr p c.1) = true := by
  induction cells with
  | nil => exact ⟨rfl, rfl⟩
  | cons c rest ih =>
    obtain ⟨n, v⟩ := c
    simp only [loadGprs]
    split
    · exact ⟨Memory.wf_writeCell ih.1, all_writeCell _ ih.2 (by assumption)⟩
    · exact ih

/-- The devices touch only TMR0, INTCON's flags, EECON1, the hidden counts and the time asleep. -/
theorem State.devices_frame (s : State) (i : Input) :
    s.devices i =
      { s with
        intcon := { s.intcon with
          t0if := (s.devices i).intcon.t0if
          intf := s.intcon.intf || i.irq.intf
          rbif := s.intcon.rbif || i.irq.rbif }
        tmr0 := (s.devices i).tmr0
        eecon1 := if i.irq.eeif then s.eecon1 ||| 0b10000#5 else s.eecon1
        wdt := (s.devices i).wdt
        prescaler := (s.devices i).prescaler
        sleepTime := (s.devices i).sleepTime } := by
  unfold State.devices State.sleepFor State.advanceCounts State.advanceTimer0
  split <;> rfl

@[simp] theorem State.devices_cfg (s : State) (i : Input) : (s.devices i).cfg = s.cfg := by
  rw [State.devices_frame]
@[simp] theorem State.devices_w (s : State) (i : Input) : (s.devices i).w = s.w := by
  rw [State.devices_frame]
@[simp] theorem State.devices_pc (s : State) (i : Input) : (s.devices i).pc = s.pc := by
  rw [State.devices_frame]
@[simp] theorem State.devices_stack (s : State) (i : Input) : (s.devices i).stack = s.stack := by
  rw [State.devices_frame]
@[simp] theorem State.devices_sp (s : State) (i : Input) : (s.devices i).sp = s.sp := by
  rw [State.devices_frame]
@[simp] theorem State.devices_depth (s : State) (i : Input) : (s.devices i).depth = s.depth := by
  rw [State.devices_frame]
@[simp] theorem State.devices_status (s : State) (i : Input) : (s.devices i).status = s.status := by
  rw [State.devices_frame]
@[simp] theorem State.devices_pclath (s : State) (i : Input) : (s.devices i).pclath = s.pclath := by
  rw [State.devices_frame]
@[simp] theorem State.devices_fsr (s : State) (i : Input) : (s.devices i).fsr = s.fsr := by
  rw [State.devices_frame]
@[simp] theorem State.devices_optionReg (s : State) (i : Input) :
    (s.devices i).optionReg = s.optionReg := by
  rw [State.devices_frame]
@[simp] theorem State.devices_trisA (s : State) (i : Input) : (s.devices i).trisA = s.trisA := by
  rw [State.devices_frame]
@[simp] theorem State.devices_trisB (s : State) (i : Input) : (s.devices i).trisB = s.trisB := by
  rw [State.devices_frame]
@[simp] theorem State.devices_latchA (s : State) (i : Input) : (s.devices i).latchA = s.latchA := by
  rw [State.devices_frame]
@[simp] theorem State.devices_latchB (s : State) (i : Input) : (s.devices i).latchB = s.latchB := by
  rw [State.devices_frame]
@[simp] theorem State.devices_pinsA (s : State) (i : Input) : (s.devices i).pinsA = s.pinsA := by
  rw [State.devices_frame]
@[simp] theorem State.devices_pinsB (s : State) (i : Input) : (s.devices i).pinsB = s.pinsB := by
  rw [State.devices_frame]
@[simp] theorem State.devices_eedata (s : State) (i : Input) : (s.devices i).eedata = s.eedata := by
  rw [State.devices_frame]
@[simp] theorem State.devices_eeadr (s : State) (i : Input) : (s.devices i).eeadr = s.eeadr := by
  rw [State.devices_frame]
@[simp] theorem State.devices_eecon2 (s : State) (i : Input) : (s.devices i).eecon2 = s.eecon2 := by
  rw [State.devices_frame]
@[simp] theorem State.devices_ram (s : State) (i : Input) : (s.devices i).ram = s.ram := by
  rw [State.devices_frame]
@[simp] theorem State.devices_prog (s : State) (i : Input) : (s.devices i).prog = s.prog := by
  rw [State.devices_frame]
@[simp] theorem State.devices_sleeping (s : State) (i : Input) :
    (s.devices i).sleeping = s.sleeping := by
  rw [State.devices_frame]
@[simp] theorem State.devices_cycles (s : State) (i : Input) : (s.devices i).cycles = s.cycles := by
  rw [State.devices_frame]
@[simp] theorem State.devices_wdtClearedAt (s : State) (i : Input) :
    (s.devices i).wdtClearedAt = s.wdtClearedAt := by
  rw [State.devices_frame]
@[simp] theorem State.devices_inputs (s : State) (i : Input) : (s.devices i).inputs = s.inputs := by
  rw [State.devices_frame]

/-- The time asleep only grows. -/
theorem State.devices_sleepTime (s : State) (i : Input) :
    (s.devices i).sleepTime = if s.sleeping then s.sleepTime + i.sleepCycles else s.sleepTime := by
  unfold State.devices State.sleepFor State.advanceCounts State.advanceTimer0
  split <;> simp_all [State.raiseFlags]

/-- A reset keeps the program and the configuration. -/
theorem State.applyReset_prog (s : State) (k : ResetKind) :
    (s.applyReset k).prog = s.prog ∧ (s.applyReset k).cfg = s.cfg := by
  cases k <;> exact ⟨rfl, rfl⟩

/-- A reset clears the count of live entries. -/
theorem State.applyReset_depth (s : State) (k : ResetKind) : (s.applyReset k).depth = 0 := by
  cases k <;> rfl

/-- A reset leaves the general-purpose registers alone, but for a power-on. -/
theorem State.applyReset_ram (s : State) (k : ResetKind) :
    (s.applyReset k).ram = s.ram ∨
      ∃ x : PowerOnDraw, (s.applyReset k).ram = loadGprs s.cfg x.gpr := by
  cases k
  · exact .inr ⟨_, rfl⟩
  all_goals exact .inl rfl

/-- A reset leaves the stack alone, but for a power-on, which fills `STACK_DEPTH` cells. -/
theorem State.applyReset_stack (s : State) (k : ResetKind) :
    ((s.applyReset k).stack = s.stack ∧ (s.applyReset k).sp = s.sp) ∨
      ∃ x : PowerOnDraw, (s.applyReset k).stack = fitStack s.cfg.stackDepth x.stack ∧
        (s.applyReset k).sp = x.sp % s.cfg.stackDepth := by
  cases k
  · exact .inr ⟨_, rfl, rfl⟩
  all_goals exact .inl ⟨rfl, rfl⟩

@[simp] theorem fitStack_length (n : Nat) (cells : List ProgAddr) :
    (fitStack n cells).length = n := by
  simp [fitStack]

/-- A reset clears the WDT now. -/
theorem State.applyReset_time (s : State) (k : ResetKind) :
    (s.applyReset k).cycles = s.cycles ∧ (s.applyReset k).sleepTime = s.sleepTime ∧
      (s.applyReset k).wdtClearedAt = s.cycles + s.sleepTime := by
  cases k <;> exact ⟨rfl, rfl, rfl⟩

/-- A time-out is a Watchdog reset, or a wake-up that clears the counts. -/
theorem State.timeOut_cases (s : State) :
    (s.sleeping = false ∧ s.timeOut = s.applyReset .wdt) ∨
      (s.sleeping = true ∧ s.timeOut =
        { s with
          status := { s.status with toBit := false, pdBit := false }
          sleeping := false, wdt := 0x00#8, prescaler := 0x00#8, wdtClearedAt := s.elapsed }) := by
  unfold State.timeOut
  cases h : s.sleeping
  · exact .inl ⟨rfl, rfl⟩
  · exact .inr ⟨rfl, rfl⟩

/-- What fetching and executing one instruction can answer. -/
theorem State.runInstruction_cases (s : State) :
    (∃ r, s.fetch = .error r ∧ s.runInstruction = .refused r) ∨
      (∃ w r, s.fetch = .ok w ∧ decode w = .error r ∧
        s.runInstruction = .refused (.unassignedEncoding w)) ∨
      (∃ w i, s.fetch = .ok w ∧ decode w = .ok i ∧ s.runInstruction = exec i s) := by
  unfold State.runInstruction
  split
  · exact .inl ⟨_, by assumption, rfl⟩
  · split
    · exact .inr (.inr ⟨_, _, by assumption, by assumption, rfl⟩)
    · exact .inr (.inl ⟨_, _, by assumption, by assumption, by cases s.cfg.illegalPolicy; rfl⟩)

/-- The five things a step without a reset can do, each with its condition (rule R229). -/
theorem State.action_cases (s : State) (i : Input) :
    (s.action i = .timeOut ∧ s.wdtExpires i = true) ∨
      (s.wdtExpires i = false ∧
        ((s.action i = .wake ∧ s.sleeping = true ∧ s.wakes = true) ∨
          (s.action i = .stayAsleep ∧ s.sleeping = true ∧ s.wakes = false) ∨
          (s.action i = .interrupt ∧ s.sleeping = false ∧ s.intcon.gie = true ∧
            s.pending = true) ∨
          (s.action i = .run ∧ s.sleeping = false ∧ (s.intcon.gie && s.pending) = false))) := by
  unfold State.action
  cases s.wdtExpires i <;> cases s.sleeping <;> cases s.wakes <;> cases s.intcon.gie <;>
    cases s.pending <;> simp

/-- A step is a reset, or what the action after the devices says. -/
theorem step_cases (s : State) :
    (∃ r, s.boundaryInput.reset = some r ∧
        step s = .next (s.takeInput.applyReset (s.takeInput.resetKind r))) ∨
      (s.boundaryInput.reset = none ∧
        step s = (s.takeInput.devices s.boundaryInput).act
          ((s.takeInput.devices s.boundaryInput).action s.boundaryInput)) := by
  unfold step State.boundaryStep
  cases h : s.boundaryInput.reset
  · exact .inr ⟨rfl, by simp [h]⟩
  · exact .inl ⟨_, rfl, by simp [h]⟩

end Sys2Proof.Machine
end

