-- ==== Sys2Proof/Laws/PerInstr.lean ====
section
/-! SUPPORT. Per instruction: the encoder's word matches the instruction's row of
spec/opcode_table.json. -/

namespace Sys2Proof.Laws

/-- The mask of an instruction's row. -/
def rowMask (i : Instr) : ProgWord :=
  match i with
  | .addwf _ _ => 0x3F00#14
  | .andwf _ _ => 0x3F00#14
  | .clrf _ => 0x3F80#14
  | .clrw => 0x3F80#14
  | .comf _ _ => 0x3F00#14
  | .decf _ _ => 0x3F00#14
  | .decfsz _ _ => 0x3F00#14
  | .incf _ _ => 0x3F00#14
  | .incfsz _ _ => 0x3F00#14
  | .iorwf _ _ => 0x3F00#14
  | .movf _ _ => 0x3F00#14
  | .movwf _ => 0x3F80#14
  | .nop => 0x3F9F#14
  | .rlf _ _ => 0x3F00#14
  | .rrf _ _ => 0x3F00#14
  | .subwf _ _ => 0x3F00#14
  | .swapf _ _ => 0x3F00#14
  | .xorwf _ _ => 0x3F00#14
  | .bcf _ _ => 0x3C00#14
  | .bsf _ _ => 0x3C00#14
  | .btfsc _ _ => 0x3C00#14
  | .btfss _ _ => 0x3C00#14
  | .addlw _ => 0x3E00#14
  | .andlw _ => 0x3F00#14
  | .call _ => 0x3800#14
  | .clrwdt => 0x3FFF#14
  | .goto _ => 0x3800#14
  | .iorlw _ => 0x3F00#14
  | .movlw _ => 0x3C00#14
  | .retfie => 0x3FFF#14
  | .retlw _ => 0x3C00#14
  | .ret => 0x3FFF#14
  | .sleep => 0x3FFF#14
  | .sublw _ => 0x3E00#14
  | .xorlw _ => 0x3F00#14
  | .option => 0x3FFF#14
  | .tris _ => 0x3FF8#14

/-- The match of an instruction's row. -/
def rowMatch (i : Instr) : ProgWord :=
  match i with
  | .addwf _ _ => 0x0700#14
  | .andwf _ _ => 0x0500#14
  | .clrf _ => 0x0180#14
  | .clrw => 0x0100#14
  | .comf _ _ => 0x0900#14
  | .decf _ _ => 0x0300#14
  | .decfsz _ _ => 0x0B00#14
  | .incf _ _ => 0x0A00#14
  | .incfsz _ _ => 0x0F00#14
  | .iorwf _ _ => 0x0400#14
  | .movf _ _ => 0x0800#14
  | .movwf _ => 0x0080#14
  | .nop => 0x0000#14
  | .rlf _ _ => 0x0D00#14
  | .rrf _ _ => 0x0C00#14
  | .subwf _ _ => 0x0200#14
  | .swapf _ _ => 0x0E00#14
  | .xorwf _ _ => 0x0600#14
  | .bcf _ _ => 0x1000#14
  | .bsf _ _ => 0x1400#14
  | .btfsc _ _ => 0x1800#14
  | .btfss _ _ => 0x1C00#14
  | .addlw _ => 0x3E00#14
  | .andlw _ => 0x3900#14
  | .call _ => 0x2000#14
  | .clrwdt => 0x0064#14
  | .goto _ => 0x2800#14
  | .iorlw _ => 0x3800#14
  | .movlw _ => 0x3000#14
  | .retfie => 0x0009#14
  | .retlw _ => 0x3400#14
  | .ret => 0x0008#14
  | .sleep => 0x0063#14
  | .sublw _ => 0x3C00#14
  | .xorlw _ => 0x3A00#14
  | .option => 0x0062#14
  | .tris _ => 0x0060#14

/-- The encoded word, masked by the row's mask, is the row's match. -/
def EncodesTableRow.Statement (i : Instr) : Prop := encode i &&& rowMask i = rowMatch i

theorem EncodesTableRow.addwf (d : Dest) (f : FileAddr) :
    EncodesTableRow.Statement (.addwf d f) := by
  unfold EncodesTableRow.Statement
  cases d <;> (revert f; decide)

theorem EncodesTableRow.andwf (d : Dest) (f : FileAddr) :
    EncodesTableRow.Statement (.andwf d f) := by
  unfold EncodesTableRow.Statement
  cases d <;> (revert f; decide)

theorem EncodesTableRow.clrf (f : FileAddr) :
    EncodesTableRow.Statement (.clrf f) := by
  unfold EncodesTableRow.Statement
  revert f; decide

theorem EncodesTableRow.clrw :
    EncodesTableRow.Statement .clrw := by
  unfold EncodesTableRow.Statement
  decide

theorem EncodesTableRow.comf (d : Dest) (f : FileAddr) :
    EncodesTableRow.Statement (.comf d f) := by
  unfold EncodesTableRow.Statement
  cases d <;> (revert f; decide)

theorem EncodesTableRow.decf (d : Dest) (f : FileAddr) :
    EncodesTableRow.Statement (.decf d f) := by
  unfold EncodesTableRow.Statement
  cases d <;> (revert f; decide)

theorem EncodesTableRow.decfsz (d : Dest) (f : FileAddr) :
    EncodesTableRow.Statement (.decfsz d f) := by
  unfold EncodesTableRow.Statement
  cases d <;> (revert f; decide)

theorem EncodesTableRow.incf (d : Dest) (f : FileAddr) :
    EncodesTableRow.Statement (.incf d f) := by
  unfold EncodesTableRow.Statement
  cases d <;> (revert f; decide)

theorem EncodesTableRow.incfsz (d : Dest) (f : FileAddr) :
    EncodesTableRow.Statement (.incfsz d f) := by
  unfold EncodesTableRow.Statement
  cases d <;> (revert f; decide)

theorem EncodesTableRow.iorwf (d : Dest) (f : FileAddr) :
    EncodesTableRow.Statement (.iorwf d f) := by
  unfold EncodesTableRow.Statement
  cases d <;> (revert f; decide)

theorem EncodesTableRow.movf (d : Dest) (f : FileAddr) :
    EncodesTableRow.Statement (.movf d f) := by
  unfold EncodesTableRow.Statement
  cases d <;> (revert f; decide)

theorem EncodesTableRow.movwf (f : FileAddr) :
    EncodesTableRow.Statement (.movwf f) := by
  unfold EncodesTableRow.Statement
  revert f; decide

theorem EncodesTableRow.nop :
    EncodesTableRow.Statement .nop := by
  unfold EncodesTableRow.Statement
  decide

theorem EncodesTableRow.rlf (d : Dest) (f : FileAddr) :
    EncodesTableRow.Statement (.rlf d f) := by
  unfold EncodesTableRow.Statement
  cases d <;> (revert f; decide)

theorem EncodesTableRow.rrf (d : Dest) (f : FileAddr) :
    EncodesTableRow.Statement (.rrf d f) := by
  unfold EncodesTableRow.Statement
  cases d <;> (revert f; decide)

theorem EncodesTableRow.subwf (d : Dest) (f : FileAddr) :
    EncodesTableRow.Statement (.subwf d f) := by
  unfold EncodesTableRow.Statement
  cases d <;> (revert f; decide)

theorem EncodesTableRow.swapf (d : Dest) (f : FileAddr) :
    EncodesTableRow.Statement (.swapf d f) := by
  unfold EncodesTableRow.Statement
  cases d <;> (revert f; decide)

theorem EncodesTableRow.xorwf (d : Dest) (f : FileAddr) :
    EncodesTableRow.Statement (.xorwf d f) := by
  unfold EncodesTableRow.Statement
  cases d <;> (revert f; decide)

theorem EncodesTableRow.bcf (b : BitIndex) (f : FileAddr) :
    EncodesTableRow.Statement (.bcf b f) := by
  unfold EncodesTableRow.Statement
  revert b f; decide

theorem EncodesTableRow.bsf (b : BitIndex) (f : FileAddr) :
    EncodesTableRow.Statement (.bsf b f) := by
  unfold EncodesTableRow.Statement
  revert b f; decide

theorem EncodesTableRow.btfsc (b : BitIndex) (f : FileAddr) :
    EncodesTableRow.Statement (.btfsc b f) := by
  unfold EncodesTableRow.Statement
  revert b f; decide

theorem EncodesTableRow.btfss (b : BitIndex) (f : FileAddr) :
    EncodesTableRow.Statement (.btfss b f) := by
  unfold EncodesTableRow.Statement
  revert b f; decide

theorem EncodesTableRow.addlw (k : Byte) :
    EncodesTableRow.Statement (.addlw k) := by
  unfold EncodesTableRow.Statement
  revert k; decide

theorem EncodesTableRow.andlw (k : Byte) :
    EncodesTableRow.Statement (.andlw k) := by
  unfold EncodesTableRow.Statement
  revert k; decide

theorem EncodesTableRow.call (k : BitVec 11) :
    EncodesTableRow.Statement (.call k) := by
  unfold EncodesTableRow.Statement
  revert k; decide

theorem EncodesTableRow.clrwdt :
    EncodesTableRow.Statement .clrwdt := by
  unfold EncodesTableRow.Statement
  decide

theorem EncodesTableRow.goto (k : BitVec 11) :
    EncodesTableRow.Statement (.goto k) := by
  unfold EncodesTableRow.Statement
  revert k; decide

theorem EncodesTableRow.iorlw (k : Byte) :
    EncodesTableRow.Statement (.iorlw k) := by
  unfold EncodesTableRow.Statement
  revert k; decide

theorem EncodesTableRow.movlw (k : Byte) :
    EncodesTableRow.Statement (.movlw k) := by
  unfold EncodesTableRow.Statement
  revert k; decide

theorem EncodesTableRow.retfie :
    EncodesTableRow.Statement .retfie := by
  unfold EncodesTableRow.Statement
  decide

theorem EncodesTableRow.retlw (k : Byte) :
    EncodesTableRow.Statement (.retlw k) := by
  unfold EncodesTableRow.Statement
  revert k; decide

theorem EncodesTableRow.ret :
    EncodesTableRow.Statement .ret := by
  unfold EncodesTableRow.Statement
  decide

theorem EncodesTableRow.sleep :
    EncodesTableRow.Statement .sleep := by
  unfold EncodesTableRow.Statement
  decide

theorem EncodesTableRow.sublw (k : Byte) :
    EncodesTableRow.Statement (.sublw k) := by
  unfold EncodesTableRow.Statement
  revert k; decide

theorem EncodesTableRow.xorlw (k : Byte) :
    EncodesTableRow.Statement (.xorlw k) := by
  unfold EncodesTableRow.Statement
  revert k; decide

theorem EncodesTableRow.option :
    EncodesTableRow.Statement .option := by
  unfold EncodesTableRow.Statement
  decide

theorem EncodesTableRow.tris (f : BitVec 3) :
    EncodesTableRow.Statement (.tris f) := by
  unfold EncodesTableRow.Statement
  revert f; decide

end Sys2Proof.Laws
end

