-- ==== Sys2Proof/Tests/Slice0.lean ====
section
/-! SUPPORT. Tests of the model against the spec's own vectors (spec/95_test_vectors.md; their ids stand
in the comments) and against words written out from the encodings of spec/30_encoding.md, and for every
obligation with hypotheses a witness that meets them. -/

namespace Sys2Proof.Tests

open Sys2Proof Sys2Proof.Machine

/-! ### Helpers -/

/-- The vectors' convention: pc 0x0100, bank 0, W and the register 0x0C as given, the rest as after
reset. -/
def start (w v : Byte) : State :=
  { State.reset with pc := 0x0100#13, w := w, ram := writeCell 0x0C v [] }

/-- Awake with the interrupt bits `ic` and the next input raising the flags `q`. -/
def raising (q : IrqFlags) (ic : Byte) : State :=
  { start 0x42#8 0x55#8 with
    pc := 0x0123#13, intcon := Intcon.ofByte ic
    inputs := [{ State.reset.quietInput with irq := q }] }

/-- The INT flag is raised. -/
def intEvent : IrqFlags := { noIrq with intf := true }

/-- The next input requests a reset. -/
def requesting (r : ResetRequest) : State :=
  { start 0x42#8 0x55#8 with inputs := [{ State.reset.quietInput with reset := some r }] }

/-- The next input is a Watchdog time-out, in the state of V-WDT-1. -/
def timingOut : State :=
  { start 0x42#8 0x55#8 with
    pc := 0x0234#13
    status :=
      { irp := false, rp1 := false, rp0 := true, toBit := true, pdBit := true, z := true, dc := true,
        c := true }
    inputs := [{ State.reset.quietInput with wdtTimeout := true }] }

/-- STATUS with C, DC and Z set or cleared together. -/
def withFlags (s : State) (x : Bool) : State :=
  { s with status := { s.status with c := x, dc := x, z := x } }

/-- The state under the other stack policy, with a count of live entries. -/
def counting (s : State) (n : Nat) : State :=
  { s with cfg := { s.cfg with stackPolicy := .fault }, depth := n }

/-- The stack of V-CALL-4. -/
def fullStack (s : State) : State :=
  { s with stack := [1#13, 2#13, 3#13, 4#13, 5#13, 6#13, 7#13, 8#13] }

/-- `p` holds of the next state. -/
def next (o : Host.Outcome State Fault Refusal) (p : State → Bool) : Bool :=
  match o with
  | .next t => p t
  | .fault _ => false
  | .refused _ => false

/-- The step is refused with `r`. -/
def refuses (o : Host.Outcome State Fault Refusal) (r : Refusal) : Bool :=
  match o with
  | .next _ => false
  | .fault _ => false
  | .refused q => decide (q = r)

/-- One step from `s` with `word` loaded at its pc. -/
def runs (s : State) (word : Nat) : Host.Outcome State Fault Refusal := step (s.withFetchWord 14 word)

/-- C, DC and Z. -/
def cdz (t : State) : Bool × Bool × Bool := (t.status.c, t.status.dc, t.status.z)

/-- The register 0x0C. -/
def reg (t : State) : Byte := t.readReg (t.fileReg 0x0C#8)

/-- The byte of STATUS. -/
def statusByte (t : State) : Byte := t.readReg .status

/-- The state with other parameters. -/
def configured (s : State) (p : Params) : State := { s with cfg := p }

/-- A map that puts PORTB at 0x00 and 0x06, STATUS at 0x83, general-purpose registers at 0x05 and 0xFF,
and nothing elsewhere. -/
def oddMap : FileMap :=
  .table [(0x00#8, .portB), (0x06#8, .portB), (0x83#8, .status), (0x05#8, .gpr 7), (0xFF#8, .gpr 300),
    (0x05#8, .pcl)]

/-- STATUS with its bits in the reverse order. -/
def oddLayout : StatusLayout :=
  { irp := 0#3, rp1 := 1#3, rp0 := 2#3, toBit := 3#3, pdBit := 4#3, z := 5#3, dc := 6#3, c := 7#3 }

/-- Other vectors, a stack of two and a program memory of 16 words. -/
def oddParams : Params :=
  { defaultParams with
    progWords := 16, resetVector := 0x0100#13, intVector := 0x0200#13, stackDepth := 2
    fileMap := oddMap, statusLayout := oddLayout }

/-- Asleep with the Watchdog enabled, 100 cycles spent, the WDT cleared at 40, and a time-out at the end
of a sleep of 10 cycles; the least time is `least`. -/
def leastTime (least : Nat) : State :=
  { timingOut with
    cfg := { defaultParams with wdtMinCycles := least }
    sleeping := true, cycles := 100, wdtClearedAt := 40
    inputs := [{ State.reset.quietInput with wdtTimeout := true, sleepCycles := 10 }] }

/-! ### Well-formedness -/

theorem test_tris_below_five_is_ill_formed :
    Instr.wf (.tris 0#3) = false ∧ Instr.wf (.tris 4#3) = false ∧ Instr.wf (.tris 5#3) = true ∧
      Instr.wf (.tris 7#3) = true := by decide

/-! ### Decoding: words written bit by bit from 30_encoding.md rules R100 to R104 -/

theorem test_decode_byte_oriented :
    decode 0b00011110001100#14 = .ok (.addwf .f 0x0C#7) ∧ decode 0b00010100001100#14 = .ok (.andwf .w 0x0C#7) ∧
    decode 0b00000110001100#14 = .ok (.clrf 0x0C#7) ∧ decode 0b00000100000000#14 = .ok .clrw ∧
    decode 0b00100110001100#14 = .ok (.comf .f 0x0C#7) ∧ decode 0b00001110001100#14 = .ok (.decf .f 0x0C#7) ∧
    decode 0b00101100001100#14 = .ok (.decfsz .w 0x0C#7) ∧ decode 0b00101010001100#14 = .ok (.incf .f 0x0C#7) ∧
    decode 0b00111110001100#14 = .ok (.incfsz .f 0x0C#7) ∧ decode 0b00010000001100#14 = .ok (.iorwf .w 0x0C#7) ∧
    decode 0b00100010001100#14 = .ok (.movf .f 0x0C#7) ∧ decode 0b00000010001100#14 = .ok (.movwf 0x0C#7) ∧
    decode 0b00000000000000#14 = .ok .nop ∧ decode 0b00110110001100#14 = .ok (.rlf .f 0x0C#7) ∧
    decode 0b00110000001100#14 = .ok (.rrf .w 0x0C#7) ∧ decode 0b00001010001100#14 = .ok (.subwf .f 0x0C#7) ∧
    decode 0b00111000001100#14 = .ok (.swapf .w 0x0C#7) ∧ decode 0b00011010001100#14 = .ok (.xorwf .f 0x0C#7) :=
  by decide

theorem test_decode_bit_oriented :
    decode 0b01001010001100#14 = .ok (.bcf 5#3 0x0C#7) ∧ decode 0b01011010001100#14 = .ok (.bsf 5#3 0x0C#7) ∧
    decode 0b01100100001100#14 = .ok (.btfsc 2#3 0x0C#7) ∧ decode 0b01111110001100#14 = .ok (.btfss 7#3 0x0C#7) :=
  by decide

theorem test_decode_literal_and_control :
    decode 0b11111000010101#14 = .ok (.addlw 0x15#8) ∧ decode 0b11100101011111#14 = .ok (.andlw 0x5F#8) ∧
    decode 0b10000100100011#14 = .ok (.call 0x123#11) ∧ decode 0b00000001100100#14 = .ok .clrwdt ∧
    decode 0b10100100100011#14 = .ok (.goto 0x123#11) ∧ decode 0b11100000110101#14 = .ok (.iorlw 0x35#8) ∧
    decode 0b11000001011010#14 = .ok (.movlw 0x5A#8) ∧ decode 0b00000000001001#14 = .ok .retfie ∧
    decode 0b11010010101011#14 = .ok (.retlw 0xAB#8) ∧ decode 0b00000000001000#14 = .ok .ret ∧
    decode 0b00000001100011#14 = .ok .sleep ∧ decode 0b11110000000010#14 = .ok (.sublw 0x02#8) ∧
    decode 0b11101010101111#14 = .ok (.xorlw 0xAF#8) := by decide

theorem test_decode_option_and_tris :
    decode 0b00000001100010#14 = .ok .option ∧ decode 0b00000001100101#14 = .ok (.tris 5#3) ∧
    decode 0b00000001100110#14 = .ok (.tris 6#3) ∧ decode 0b00000001100111#14 = .ok (.tris 7#3) := by decide

/-- V-DEC-2, 3, 5, 22, 23, 25, 26: don't-care bits, and MOVWF beside NOP. -/
theorem test_decode_dont_care_bits :
    decode 0x0060#14 = .ok .nop ∧ decode 0x0080#14 = .ok (.movwf 0x00#7) ∧ decode 0x017F#14 = .ok .clrw ∧
    decode 0x33FF#14 = .ok (.movlw 0xFF#8) ∧ decode 0x37AB#14 = .ok (.retlw 0xAB#8) ∧
    decode 0x3D02#14 = .ok (.sublw 0x02#8) ∧ decode 0x3FFF#14 = .ok (.addlw 0xFF#8) := by decide

/-- V-DEC-16, 17. -/
theorem test_decode_unassigned_words :
    ([0x0001, 0x0007, 0x000A, 0x001F, 0x0021, 0x0041, 0x0061, 0x0068, 0x007F, 0x3B00, 0x3BFF].all
      fun n => decide (decode (BitVec.ofNat 14 n) = .error (.unassignedEncoding (BitVec.ofNat 14 n)))) =
      true := by decide

/-- Rule R108: bits 15:14 of a container must be 0. -/
theorem test_decode_container :
    decodeContainer 0x3FFF#16 = .ok (.addlw 0xFF#8) ∧
      decodeContainer 0x4000#16 = .error (.containerBits 0x4000#16) ∧ decodeTableWord 16 0x078C = some (.addwf .f 0x0C#7) :=
  by decide

/-! ### Byte-oriented instructions (95_test_vectors.md sections 1.1 and 2.2) -/

/-- V-ADDWF-3. -/
theorem test_addwf_carry_without_digit_carry :
    next (runs (start 0x80#8 0x80#8) 0x070C)
      (fun t => t.w == 0x00#8 && cdz t == (true, false, true) && t.pc == 0x0101#13 && t.cycles == 1) = true := by
  decide

/-- V-ADDWF-5. -/
theorem test_addwf_digit_carry_without_carry :
    next (runs (start 0x7F#8 0x01#8) 0x070C) (fun t => t.w == 0x80#8 && cdz t == (false, true, false)) = true := by
  decide

/-- V-SUBWF-2. -/
theorem test_subwf_borrow_of_the_low_nibble :
    next (runs (start 0x01#8 0x10#8) 0x028C) (fun t => reg t == 0x0F#8 && cdz t == (true, false, false)) = true := by
  decide

/-- S-SUBWF-3. -/
theorem test_subwf_negative :
    next (runs (start 0x02#8 0x01#8) 0x028C)
      (fun t => reg t == 0xFF#8 && t.w == 0x02#8 && cdz t == (false, false, false)) = true := by decide

/-- V-ANDWF-1. -/
theorem test_andwf_keeps_carry :
    next (runs { start 0xF0#8 0x0F#8 with status := { State.reset.status with c := true, dc := true } } 0x058C)
      (fun t => reg t == 0x00#8 && t.w == 0xF0#8 && cdz t == (true, true, true)) = true := by decide

/-- S-IORWF, with the Z the spec corrects (90_conflicts.md C4). -/
theorem test_iorwf : next (runs (start 0x91#8 0x13#8) 0x040C)
    (fun t => t.w == 0x93#8 && reg t == 0x13#8 && !t.status.z) = true := by decide

/-- S-XORWF. -/
theorem test_xorwf : next (runs (start 0xB5#8 0xAF#8) 0x068C)
    (fun t => reg t == 0x1A#8 && t.w == 0xB5#8) = true := by decide

/-- S-CLRF, S-CLRW. -/
theorem test_clear :
    next (runs (start 0x5A#8 0x5A#8) 0x018C) (fun t => reg t == 0x00#8 && t.w == 0x5A#8 && t.status.z) = true ∧
      next (runs (start 0x5A#8 0x5A#8) 0x0100) (fun t => t.w == 0x00#8 && reg t == 0x5A#8 && t.status.z) = true := by
  decide

/-- S-COMF. -/
theorem test_comf : next (runs (start 0x00#8 0x13#8) 0x090C)
    (fun t => t.w == 0xEC#8 && reg t == 0x13#8 && !t.status.z) = true := by decide

/-- V-DECF-1, V-INCF-2: no borrow, no carry recorded. -/
theorem test_decf_and_incf_wrap :
    next (runs (withFlags (start 0x00#8 0x00#8) true) 0x038C)
        (fun t => reg t == 0xFF#8 && cdz t == (true, true, false)) = true ∧
      next (runs (start 0x00#8 0xFF#8) 0x0A8C) (fun t => reg t == 0x00#8 && cdz t == (false, false, true)) = true := by
  decide

/-- V-DECFSZ-1, V-DECFSZ-2. -/
theorem test_decfsz :
    next (runs (start 0x00#8 0x01#8) 0x0B8C)
        (fun t => reg t == 0x00#8 && t.pc == 0x0102#13 && t.cycles == 2 && !t.status.z) = true ∧
      next (runs (start 0x00#8 0x00#8) 0x0B8C)
        (fun t => reg t == 0xFF#8 && t.pc == 0x0101#13 && t.cycles == 1) = true := by decide

/-- V-INCFSZ-3, V-INCFSZ-2. -/
theorem test_incfsz :
    next (runs (start 0x11#8 0xFF#8) 0x0F0C)
        (fun t => t.w == 0x00#8 && reg t == 0xFF#8 && t.pc == 0x0102#13) = true ∧
      next (runs (start 0x00#8 0x00#8) 0x0F8C) (fun t => reg t == 0x01#8 && t.pc == 0x0101#13) = true := by decide

/-- V-MOVF-1, V-MOVWF-1. -/
theorem test_movf_and_movwf :
    next (runs (start 0x33#8 0x00#8) 0x088C) (fun t => t.w == 0x33#8 && t.status.z) = true ∧
      next (runs (start 0x00#8 0xFF#8) 0x008C) (fun t => reg t == 0x00#8 && !t.status.z) = true := by decide

/-- V-NOP-1, V-WRAP-1. -/
theorem test_nop :
    next (runs (start 0x00#8 0x00#8) 0x0000) (fun t => t.pc == 0x0101#13 && t.cycles == 1) = true ∧
      next (runs { State.reset with pc := 0x1FFF#13 } 0x0000) (fun t => t.pc == 0x0000#13) = true := by decide

/-- V-RLF-3, V-RRF-3. -/
theorem test_rotates_through_carry :
    next (runs (withFlags (start 0x00#8 0x55#8) true) 0x0D0C)
        (fun t => t.w == 0xAB#8 && cdz t == (false, true, true)) = true ∧
      next (runs (withFlags (start 0x00#8 0xAA#8) true) 0x0C0C)
        (fun t => t.w == 0xD5#8 && cdz t == (false, true, true)) = true := by decide

/-- V-RLF-2, V-RRF-2. -/
theorem test_rotates_leave_zero_alone :
    next (runs (start 0x00#8 0x80#8) 0x0D8C) (fun t => reg t == 0x00#8 && cdz t == (true, false, false)) = true ∧
      next (runs (start 0x00#8 0x01#8) 0x0C8C) (fun t => reg t == 0x00#8 && cdz t == (true, false, false)) = true := by
  decide

/-- S-SWAPF. -/
theorem test_swapf : next (runs (start 0x00#8 0xA5#8) 0x0E0C)
    (fun t => t.w == 0x5A#8 && reg t == 0xA5#8) = true := by decide

/-! ### Special file registers (section 2.3) -/

/-- V-IND-1, V-IND-2. -/
theorem test_indirect :
    next (runs { start 0x00#8 0x77#8 with fsr := 0x0C#8 } 0x0800) (fun t => t.w == 0x77#8) = true ∧
      next (runs { start 0x5A#8 0x00#8 with fsr := 0x8C#8 } 0x0080) (fun t => reg t == 0x5A#8) = true := by decide

/-- V-PCL-1, V-PCL-3, V-PCL-5. -/
theorem test_pcl :
    next (runs { start 0x00#8 0x00#8 with pc := 0x0123#13 } 0x0802)
        (fun t => t.w == 0x24#8 && t.pc == 0x0124#13) = true ∧
      next (runs { start 0x05#8 0x00#8 with pc := 0x00FE#13 } 0x0782)
        (fun t => t.pc == 0x0004#13 && cdz t == (true, true, false) && t.cycles == 2) = true ∧
      next (runs { start 0x40#8 0x00#8 with pc := 0x0010#13, pclath := 0x1F#5 } 0x0082)
        (fun t => t.pc == 0x1F40#13) = true := by decide

/-- V-ST-1, V-ST-2, V-ST-4. -/
theorem test_status :
    next (runs { start 0x00#8 0x00#8 with status := { State.reset.status with c := true } } 0x0803)
        (fun t => t.w == 0x19#8 && !t.status.z) = true ∧
      next (runs { start 0x00#8 0x00#8 with
          status := { State.reset.status with c := true, dc := true, rp0 := true } } 0x0183)
        (fun t => statusByte t == 0x1F#8) = true ∧
      next (runs (start 0xE7#8 0x00#8) 0x0083) (fun t => statusByte t == 0xFF#8) = true := by decide

/-- V-BANK-1, V-BANK-2, V-PCLATH-1. -/
theorem test_banks_and_pclath :
    next (runs { start 0x07#8 0x00#8 with status := { State.reset.status with rp0 := true } } 0x0081)
        (fun t => t.optionReg == 0x07#8 && t.tmr0 == 0x00#8) = true ∧
      next (runs { start 0x07#8 0x00#8 with optionReg := 0xF7#8, prescaler := 0x99#8 } 0x0081)
        (fun t => t.tmr0 == 0x07#8 && t.prescaler == 0x00#8 && t.optionReg == 0xF7#8) = true ∧
      next (runs (start 0xFF#8 0x00#8) 0x008A) (fun t => t.pclath == 0x1F#5 && t.pc == 0x0101#13) = true := by
  decide

/-- V-PORT-1, V-PORT-2, V-UNIMPL-1. -/
theorem test_ports_and_unimplemented :
    next (runs { start 0x00#8 0x00#8 with latchB := 0xFF#8, trisB := 0xF0#8, pinsB := 0x0F#8 } 0x1406)
        (fun t => t.latchB == 0x0F#8) = true ∧
      next (runs { start 0x00#8 0x00#8 with pinsB := 0xA5#8 } 0x0806)
        (fun t => t.w == 0xA5#8 && t.latchB == 0x00#8) = true ∧
      next (runs (start 0x33#8 0x00#8) 0x0807) (fun t => t.w == 0x00#8 && t.status.z) = true := by decide

/-! ### Bit-oriented instructions (section 2.4) -/

/-- S-BCF, S-BSF. -/
theorem test_bcf_and_bsf :
    next (runs (start 0x00#8 0xC7#8) 0x138C) (fun t => reg t == 0x47#8) = true ∧
      next (runs (start 0x00#8 0x0A#8) 0x178C) (fun t => reg t == 0x8A#8) = true := by decide

/-- V-BTFSC-2, V-BTFSC-3. -/
theorem test_btfsc :
    next (runs (start 0x00#8 0x7F#8) 0x1B8C) (fun t => t.pc == 0x0102#13 && t.cycles == 2) = true ∧
      next (runs (start 0x00#8 0x01#8) 0x180C) (fun t => t.pc == 0x0101#13 && t.cycles == 1) = true := by decide

/-- V-BTFSS-1, V-BTFSS-2. -/
theorem test_btfss :
    next (runs (start 0x00#8 0x80#8) 0x1F8C) (fun t => t.pc == 0x0102#13 && t.cycles == 2) = true ∧
      next (runs (start 0x00#8 0x7F#8) 0x1F8C) (fun t => t.pc == 0x0101#13) = true := by decide

/-! ### Literal and control instructions (section 2.5) -/

/-- V-ADDLW-4, V-ADDLW-3. -/
theorem test_addlw :
    next (runs (start 0x80#8 0x00#8) 0x3E80) (fun t => t.w == 0x00#8 && cdz t == (true, false, true)) = true ∧
      next (runs (start 0x0F#8 0x00#8) 0x3E01) (fun t => t.w == 0x10#8 && cdz t == (false, true, false)) = true := by
  decide

/-- V-SUBLW-1, V-SUBLW-6. -/
theorem test_sublw :
    next (runs (start 0x01#8 0x00#8) 0x3C00) (fun t => t.w == 0xFF#8 && cdz t == (false, false, false)) = true ∧
      next (runs (start 0x7F#8 0x00#8) 0x3C80) (fun t => t.w == 0x01#8 && cdz t == (true, false, false)) = true := by
  decide

/-- S-ANDLW, S-IORLW (Z corrected, 90_conflicts.md C4), S-XORLW, V-MOVLW-2. -/
theorem test_literal_logic :
    next (runs (start 0xA3#8 0x00#8) 0x395F) (fun t => t.w == 0x03#8) = true ∧
      next (runs (start 0x9A#8 0x00#8) 0x3835) (fun t => t.w == 0xBF#8 && !t.status.z) = true ∧
      next (runs (start 0xB5#8 0x00#8) 0x3AAF) (fun t => t.w == 0x1A#8) = true ∧
      next (runs (withFlags (start 0x00#8 0x00#8) true) 0x33AA) (fun t => t.w == 0xAA#8 && t.status.z) = true := by
  decide

/-- V-GOTO-1, V-CALL-1. -/
theorem test_goto_and_call :
    next (runs { start 0x00#8 0x00#8 with pc := 0x0005#13, pclath := 0x08#5 } 0x2923)
        (fun t => t.pc == 0x0923#13 && t.cycles == 2) = true ∧
      next (runs { start 0x00#8 0x00#8 with pc := 0x0005#13, pclath := 0x08#5 } 0x2123)
        (fun t => t.pc == 0x0923#13 && t.tos == 0x0006#13 && t.sp == 1) = true := by decide

/-- V-CALL-4, under both policies. -/
theorem test_call_with_a_full_stack :
    next (runs { fullStack (start 0x00#8 0x00#8) with pc := 0x0300#13 } 0x2050)
        (fun t => t.stack == [0x0301#13, 2#13, 3#13, 4#13, 5#13, 6#13, 7#13, 8#13] && t.pc == 0x0050#13) = true ∧
      refuses (runs (counting (fullStack (start 0x00#8 0x00#8)) 8) 0x2050) .stackOverflow = true := by decide

/-- V-RETURN-2, under both policies. -/
theorem test_return_wraps :
    next (runs (fullStack (start 0x00#8 0x00#8)) 0x0008)
        (fun t => t.pc == 0x0008#13 && t.sp == 7 && t.cycles == 2) = true ∧
      refuses (runs (counting (fullStack (start 0x00#8 0x00#8)) 0) 0x0008) .stackUnderflow = true := by decide

/-- V-RETLW-1, V-RETFIE-1. -/
theorem test_retlw_and_retfie :
    next (runs { fullStack (start 0x00#8 0x00#8) with sp := 2 } 0x34AB)
        (fun t => t.w == 0xAB#8 && t.pc == 0x0002#13 && t.sp == 1) = true ∧
      next (runs { fullStack (start 0x00#8 0x00#8) with sp := 1, intcon := Intcon.ofByte 0x10#8 } 0x0009)
        (fun t => t.pc == 0x0001#13 && t.sp == 0 && t.intcon.toByte == 0x90#8) = true := by decide

/-- V-CLRWDT-1, V-SLEEP-1. -/
theorem test_clrwdt_and_sleep :
    next (runs { start 0x00#8 0x00#8 with
          wdt := 0x77#8, prescaler := 0x55#8
          status := { State.reset.status with toBit := false, pdBit := false } } 0x0064)
        (fun t => t.wdt == 0x00#8 && t.prescaler == 0x00#8 && statusByte t == 0x18#8) = true ∧
      next (runs { start 0x00#8 0x00#8 with wdt := 0x77#8, prescaler := 0x55#8, optionReg := 0xF7#8 } 0x0063)
        (fun t => t.wdt == 0x00#8 && t.prescaler == 0x55#8 && statusByte t == 0x10#8 && t.sleeping &&
          t.pc == 0x0101#13) = true := by decide

/-! ### OPTION and TRIS (section 2.6) -/

/-- V-OPTION-2, V-TRIS-1, V-TRIS-2, V-TRIS-3. -/
theorem test_option_and_tris :
    next (runs (start 0x4F#8 0x00#8) 0x0062) (fun t => t.optionReg == 0x4F#8 && t.tmr0 == 0x00#8) = true ∧
      next (runs (start 0xF0#8 0x00#8) 0x0066) (fun t => t.trisB == 0xF0#8 && t.trisA == 0x1F#5) = true ∧
      next (runs (start 0xF0#8 0x00#8) 0x0065) (fun t => t.trisA == 0x10#5 && t.trisB == 0xFF#8) = true ∧
      refuses (runs (start 0x00#8 0x00#8) 0x0067) (.trisNoSuchPort 7#3) = true := by decide

/-! ### Events (section 2.7) -/

/-- V-INT-1. -/
theorem test_interrupt_entry :
    next (runs (raising intEvent 0x90#8) 0x0000)
      (fun t => t.intcon.toByte == 0x12#8 && t.tos == 0x0123#13 && t.sp == 1 && t.pc == 0x0004#13 &&
        t.w == 0x42#8 && t.cycles == 2) = true := by decide

/-- V-INT-2, V-INT-3. -/
theorem test_no_interrupt_entry :
    next (runs (raising intEvent 0x10#8) 0x0000)
        (fun t => t.intcon.toByte == 0x12#8 && t.pc == 0x0124#13) = true ∧
      next (runs (raising { noIrq with t0if := true } 0x90#8) 0x0000)
        (fun t => t.intcon.toByte == 0x94#8 && t.pc == 0x0124#13) = true := by decide

/-- V-INT-4: the instruction that sets GIE is followed by the entry. -/
theorem test_entry_after_gie_is_set :
    next (runs { start 0x00#8 0x00#8 with pc := 0x0123#13, intcon := Intcon.ofByte 0x12#8 } 0x178B)
      (fun t => t.intcon.toByte == 0x92#8 && t.pc == 0x0124#13 &&
        next (step t) fun u => u.tos == 0x0124#13 && u.pc == 0x0004#13) = true := by decide

/-- V-WDT-1. -/
theorem test_watchdog_reset :
    next (step timingOut)
      (fun t => t.pc == 0x0000#13 && statusByte t == 0x0F#8 && t.w == 0x42#8 && t.optionReg == 0xFF#8 &&
        reg t == 0x55#8) = true := by decide

/-- V-WDT-2, V-WDT-3. -/
theorem test_watchdog_wake_up_and_disabled :
    next (step { timingOut with sleeping := true, pc := 0x0051#13 })
        (fun t => !t.sleeping && !t.status.toBit && !t.status.pdBit && t.pc == 0x0051#13) = true ∧
      next (runs { timingOut with cfg := { State.reset.cfg with wdtEnabled := false } } 0x0000)
        (fun t => t.pc == 0x0235#13) = true := by decide

/-- V-WAKE-1, V-WAKE-2, V-WAKE-3. -/
theorem test_wake_up :
    next (runs { raising intEvent 0x10#8 with sleeping := true } 0x0000)
        (fun t => !t.sleeping && t.intcon.toByte == 0x12#8 && t.pc == 0x0124#13) = true ∧
      next (runs { raising intEvent 0x90#8 with sleeping := true } 0x0000)
        (fun t => t.intcon.toByte == 0x92#8 && t.pc == 0x0124#13 &&
          next (step t) fun u => u.tos == 0x0124#13 && u.intcon.toByte == 0x12#8) = true ∧
      next (runs { raising intEvent 0x80#8 with sleeping := true } 0x0000)
        (fun t => t.sleeping && t.intcon.toByte == 0x82#8 && t.pc == 0x0123#13) = true := by decide

/-- Rule R241, the WDT wake-up column: the prescaler count is 0, also when it is Timer0's. -/
theorem test_watchdog_wake_up_clears_the_prescaler :
    next (step { timingOut with sleeping := true, optionReg := 0xF7#8, prescaler := 0x55#8, wdt := 0x77#8 })
      (fun t => t.prescaler == 0x00#8 && t.wdt == 0x00#8 && !t.sleeping) = true := by decide

/-- Rule R221: with the Watchdog disabled CLRWDT only sets TO and PD. -/
theorem test_clrwdt_disabled :
    next (runs { start 0x00#8 0x00#8 with
          cfg := { defaultParams with wdtEnabled := false }, wdt := 0x77#8, prescaler := 0x55#8
          status := { State.reset.status with toBit := false, pdBit := false } } 0x0064)
        (fun t => t.wdt == 0x77#8 && t.prescaler == 0x55#8 && statusByte t == 0x18#8 && t.cycles == 1) =
      true := by decide

/-- Rule R226: asleep, Timer0's prescaler stands still, and so does a disabled Watchdog's; an enabled
Watchdog's runs. -/
theorem test_prescaler_asleep :
    ([(0xF7#8, true, 0x20#8), (0xF7#8, false, 0x20#8), (0xFF#8, true, 0x23#8), (0xFF#8, false, 0x20#8)].all
      fun c => next (step { start 0x00#8 0x00#8 with
          cfg := { defaultParams with wdtEnabled := c.2.1 }, sleeping := true, optionReg := c.1
          prescaler := 0x20#8
          inputs := [{ State.reset.quietInput with prescalerTicks := 0x03#8, timer0 := 5 }] })
        fun t => t.prescaler == c.2.2 && t.tmr0 == 0x00#8 && t.sleeping) = true := by decide

/-- Rule R221: a time-out before `WDT_MIN_CYCLES` have passed does nothing, at them it wakes the core:
100 - 40 cycles and 10 asleep. -/
theorem test_watchdog_least_time :
    next (step (leastTime 71)) (fun t => t.sleeping && t.sleepTime == 10 && t.wdtClearedAt == 40) = true ∧
      next (step (leastTime 70)) (fun t => !t.sleeping && t.wdtClearedAt == 110) = true := by decide

/-- Rule R8: other vectors, another stack depth and another program size. -/
theorem test_other_vectors_and_sizes :
    next (step (configured (requesting .mclr) oddParams)) (fun t => t.pc == 0x0100#13) = true ∧
      next (step { configured (raising intEvent 0x90#8) oddParams with stack := [1#13, 2#13], sp := 1 })
        (fun t => t.pc == 0x0200#13 && t.stack == [1#13, 0x0123#13] && t.sp == 0) = true ∧
      next (step { configured (start 0x00#8 0x00#8) oddParams with pc := 0x0123#13, prog := [(3, 0x3E05#14)] })
        (fun t => t.w == 0x05#8) = true := by decide

/-- Rule R8: another register map and another layout of STATUS. BCF 3,5 with RP0 set works on STATUS at
0x83, whose bit 5 is Z; MOVWF 5 stores to the general-purpose register 7. -/
theorem test_other_map_and_layout :
    (let s := configured (start 0x42#8 0x00#8) oddParams
     next (runs { s with status := { s.status with rp0 := true, z := true } } 0x1283)
        (fun t => !t.status.z && t.status.rp0 && t.status.toBit && t.status.pdBit && statusByte t == 0x1C#8) = true ∧
      next (runs s 0x0085) (fun t => readCell 7 t.ram == 0x42#8 && t.pc == 0x0101#13) = true ∧
      hasGpr s.cfg 300 = true ∧ hasGpr s.cfg 12 = false) := by decide

/-- Rule R8: the defaults the spec decided. -/
theorem test_default_parameters :
    defaultParams.device = .pic16F84 ∧ defaultParams.progWords = 1024 ∧ (deviceParams .pic16CR83).progWords = 512 ∧
      defaultParams.resetVector = 0x0000#13 ∧ defaultParams.intVector = 0x0004#13 ∧ defaultParams.stackDepth = 8 ∧
      defaultParams.stackPolicy = .wrap ∧ defaultParams.statusLayout.c = 0#3 ∧ defaultParams.statusLayout.dc = 1#3 ∧
      defaultParams.statusLayout.z = 2#3 ∧ defaultParams.statusLayout.pdBit = 3#3 ∧
      defaultParams.statusLayout.toBit = 4#3 ∧ defaultParams.statusLayout.rp0 = 5#3 := by decide

/-- A draw of the values a power-on leaves unknown. -/
def draw : PowerOnDraw :=
  { w := 0x11#8, stack := List.replicate 8 0x1234#13, sp := 5, z := true, dc := false, c := true,
    rbif := true, latchA := 0x0A#5, latchB := 0x22#8, tmr0 := 0x33#8, fsr := 0x44#8,
    gpr := [(0x0C, 0x66#8), (0x07, 0x99#8), (0x4F, 0x77#8)], eedata := 0x01#8, eeadr := 0x02#8,
    wrerr := true, eecon2 := 0x03#8 }

/-- V-RST-1. -/
theorem test_power_on_reset :
    next (step (requesting (.powerOn draw)))
      (fun t => t.pc == 0x0000#13 && statusByte t == 0x1D#8 && t.intcon.toByte == 0x01#8 &&
        t.optionReg == 0xFF#8 && reg t == 0x66#8 && t.readReg (t.fileReg 0xCF#8) == 0x77#8 && t.w == 0x11#8) = true := by decide

/-- V-RST-2, V-RST-3. -/
theorem test_mclr_reset :
    next (step { requesting .mclr with
          sleeping := true, status := { State.reset.status with pdBit := false, z := true } })
        (fun t => !t.sleeping && statusByte t == 0x14#8 && t.w == 0x42#8 && reg t == 0x55#8) = true ∧
      next (step { requesting .mclr with status := { State.reset.status with toBit := false, rp0 := true } })
        (fun t => statusByte t == 0x08#8 && t.pc == 0x0000#13) = true := by decide

theorem test_reset_memory_is_canonical : Memory.wf State.reset.ram = true ∧ cellsRise State.reset.prog = true := by
  decide

/-- Nothing is loaded at reset: log 12. -/
theorem test_reset_alone_fetches_nothing : refuses (step State.reset) (.fetchOutsideImage 0#13) = true := by decide

/-! ### Witnesses: states and operands that meet the hypotheses of the obligations -/

theorem witness_DecodeOfEncodeIsTheInstruction :
    Instr.wf (.tris 5#3) = true ∧ Instr.wf (.addwf .f 0x7F#7) = true := by decide

theorem witness_DontCareBitsSelectTheSameInstruction :
    Instr.wf (.addlw 0xFF#8) = true ∧ Instr.andlw 0#8 ≠ .clrw ∧ Instr.andlw 0#8 ≠ .nop ∧
      ∀ k, Instr.andlw 0#8 ≠ .addlw k ∧ Instr.andlw 0#8 ≠ .sublw k ∧ Instr.andlw 0#8 ≠ .movlw k ∧
        Instr.andlw 0#8 ≠ .retlw k := by
  simp [Instr.wf]

theorem witness_EncodeOfDecodeIsTheWordWithoutDontCares : decode 0x3FFF#14 = .ok (.addlw 0xFF#8) := by decide

/-- The edges of every range of rule R105's table, from both sides. -/
theorem witness_UnassignedWordsAreRefusedByName :
    ([0x0001, 0x0007, 0x000A, 0x001F, 0x0021, 0x003F, 0x0041, 0x005F, 0x0061, 0x0068, 0x007F, 0x3B00, 0x3BFF].all
        fun n => !(decode (BitVec.ofNat 14 n)).isOk) = true ∧
      ([0x0000, 0x0008, 0x0009, 0x0020, 0x0040, 0x0060, 0x0062, 0x0067, 0x0080, 0x3AFF, 0x3C00].all
        fun n => (decode (BitVec.ofNat 14 n)).isOk) = true := by decide

/-- A state with one word loaded at its pc. -/
def loaded (word : Nat) : State := (start 0x00#8 0x00#8).withFetchWord 14 word

/-- The hypotheses of an undisturbed, awake step with no interrupt to take, on a program word, on an
unassigned one, and where nothing is loaded; also with a flag pending and GIE 0. -/
theorem witness_StepRunsTheDecodedInstruction :
    (loaded 0x0000).Undisturbed ∧ (loaded 0x0000).boundary.sleeping = false ∧
      (loaded 0x0000).boundary.intcon.gie = false ∧ (loaded 0x0000).boundary.nextWord = some 0x0000#14 ∧
      decode 0x0000#14 = .ok .nop ∧ (loaded 0x0061).boundary.nextWord = some 0x0061#14 ∧
      decode 0x0061#14 = .error (.unassignedEncoding 0x0061#14) ∧ (start 0x00#8 0x00#8).boundary.nextWord = none ∧
      (raising intEvent 0x10#8).Undisturbed ∧ (raising intEvent 0x10#8).boundary.intcon.gie = false ∧
      (raising intEvent 0x10#8).boundary.pending = true := by
  unfold State.Undisturbed State.TimesOut State.WdtMayTimeOut
  decide

theorem witness_SilentStepRunsThePlacedWord :
    Instr.wf .nop = true ∧ State.reset.inputs = [] ∧ State.reset.sleeping = false ∧ State.reset.intcon.gie = false := by
  decide

theorem witness_RequestedResetIsAppliedFirst :
    (requesting .mclr).boundaryInput.reset = some .mclr ∧
      (requesting (.powerOn draw)).boundaryInput.reset = some (.powerOn draw) := by decide

/-- The general-purpose registers at the ends of the range, on both sizes of device, and a draw whose
stack fits. -/
theorem witness_PowerOnLeavesTheResetTable :
    State.reset.fileReg 0x0C#8 = .gpr 0x0C ∧ State.reset.fileReg 0xCF#8 = .gpr 0x4F ∧
      (configured State.reset (deviceParams .pic16F83)).fileReg 0x2F#8 = .gpr 0x2F ∧
      draw.stack.length = State.reset.cfg.stackDepth := by decide

/-- Under both policies, with room and without. -/
theorem witness_PendingInterruptIsTaken :
    (raising intEvent 0x90#8).TakesInterrupt ∧ (counting (raising intEvent 0x90#8) 7).TakesInterrupt ∧
      (counting (raising intEvent 0x90#8) 8).TakesInterrupt ∧ (raising intEvent 0x90#8).boundary.canPush ∧
      (counting (raising intEvent 0x90#8) 7).boundary.canPush ∧
      ¬ (counting (raising intEvent 0x90#8) 8).boundary.canPush := by
  unfold State.TakesInterrupt State.Undisturbed State.TimesOut State.WdtMayTimeOut State.PendingFlag
    State.WakeFlag State.canPush
  decide

/-- Awake, and asleep just when the least time has passed. -/
theorem witness_WatchdogTimeOutResetsOrWakes :
    timingOut.boundaryInput.reset = none ∧ timingOut.TimesOut ∧ timingOut.sleeping = false ∧
      (leastTime 70).boundaryInput.reset = none ∧ (leastTime 70).TimesOut ∧ (leastTime 70).sleeping = true := by
  unfold State.TimesOut State.WdtMayTimeOut
  decide

/-- The Watchdog disabled, and enabled one cycle before the least time has passed. -/
theorem witness_DisabledWatchdogNeverTimesOut :
    State.cfg { timingOut with cfg := { defaultParams with wdtEnabled := false } } =
        { defaultParams with wdtEnabled := false } ∧
      ¬ State.WdtMayTimeOut { leastTime 71 with inputs := (leastTime 71).boundaryInput :: [] } := by
  unfold State.WdtMayTimeOut
  decide

/-- Asleep, the INT flag raised with INTE 1 and GIE 0, a NOP behind the SLEEP. -/
theorem witness_WakeUpRunsOneInstruction :
    let s := State.withFetchWord { raising intEvent 0x10#8 with sleeping := true } 14 0x0000
    s.Undisturbed ∧ s.sleeping = true ∧ s.boundary.WakeFlag ∧ s.nextWord = some 0x0000#14 ∧
      decode 0x0000#14 = .ok .nop := by
  unfold State.Undisturbed State.TimesOut State.WdtMayTimeOut State.WakeFlag
  decide

/-- Asleep, T0IF enabled and raised, no other source enabled; also with a time-out that comes too
early. -/
theorem witness_SleepingCoreExecutesNothing :
    let s := { raising { noIrq with t0if := true } 0xA0#8 with sleeping := true }
    s.Undisturbed ∧ s.sleeping = true ∧ s.boundary.pending = true ∧ ¬ s.boundary.WakeFlag ∧
      (leastTime 71).Undisturbed ∧ (leastTime 71).sleeping = true ∧ ¬ (leastTime 71).boundary.WakeFlag := by
  unfold State.Undisturbed State.TimesOut State.WdtMayTimeOut State.WakeFlag
  decide

/-- The ends of the ranges of rule R27 on both sizes of device, and a map of its own in which the first
entry of 0x05 counts. -/
theorem witness_FileMapIsTheTable :
    defaultParams.fileMap = .ofDevice ∧ (deviceParams .pic16CR83).fileMap = .ofDevice ∧
      ([0x0C, 0x4F, 0x8C, 0xCF].all fun n => regAt defaultParams (BitVec.ofNat 8 n) == .gpr (n % 128)) = true ∧
      ([0x0C, 0x2F, 0x8C, 0xAF].all
        fun n => regAt (deviceParams .pic16CR83) (BitVec.ofNat 8 n) == .gpr (n % 128)) = true ∧
      ([0x07, 0x87, 0x50, 0x7F, 0xD0, 0xFF].all
        fun n => regAt defaultParams (BitVec.ofNat 8 n) == .unimplemented) = true ∧
      ([0x30, 0x4F, 0x7F, 0xB0, 0xCF, 0xFF].all
        fun n => regAt (deviceParams .pic16CR83) (BitVec.ofNat 8 n) == .unimplemented) = true ∧
      oddParams.fileMap = oddMap ∧ regAt oddParams 0x05#8 = .gpr 7 ∧ regAt oddParams 0x04#8 = .unimplemented := by
  decide

/-- Two layouts that give every bit a place of its own, and one that does not. -/
theorem witness_FileReadsFollowTheTable :
    layoutDistinct defaultLayout = true ∧ layoutDistinct oddLayout = true ∧
      layoutDistinct { oddLayout with c := 6#3 } = false := by decide

theorem witness_StatusWriteKeepsToAndPd :
    State.reset.fileReg 0x03#8 = .status ∧ State.reset.fileReg 0x83#8 = .status := by decide

theorem witness_GeneralRegisterHoldsTheLastValueWritten :
    State.reset.fileReg 0x0C#8 = .gpr 0x0C ∧ State.reset.fileReg 0xCF#8 = .gpr 0x4F ∧ (0x4F : Nat) ≠ 0x0C := by decide

/-- Port B directly, and through INDF. -/
theorem witness_PortReadModifyWriteUsesThePins :
    State.reset.fileReg (State.reset.resolve 0x06#7) = .portB ∧
      (let s := { State.reset with fsr := 0x06#8 }
       s.fileReg (s.resolve 0x00#7) = .portB) := by decide

/-- Port B with bits 7 to 4 inputs, one of them not at its latch's level, and bits 3 to 0 driven. -/
theorem witness_DrivenOutputsKeepTheirLatchBits :
    let s := { State.reset with trisB := 0xF0#8, latchB := 0xA5#8, pinsB := 0x55#8 }
    s.fileReg (s.resolve 0x06#7) = .portB ∧ s.outputPinsDriven = true ∧ s.trisB.getLsbD 3 = false ∧
      (3 : Nat) ≠ (0#3).toNat ∧ s.pinsB ≠ s.latchB := by decide

/-- MOVWF TMR0 with the prescaler assigned to either. -/
theorem witness_EveryStoreToTmr0ClearsItsPrescaler :
    State.reset.storeReg (.movwf 0x01#7) = some .tmr0 ∧ (∃ t, exec (.movwf 0x01#7) State.reset = .next t) ∧
      State.reset.psa = true ∧ State.psa { State.reset with optionReg := 0xF7#8 } = false := by
  refine ⟨by decide, ⟨_, rfl⟩, by decide, by decide⟩

/-- The default stack, a stack of two, and a stack of one cell; as many pushes as there are cells. -/
theorem witness_StackWrapsSilently :
    State.reset.cfg.stackPolicy = .wrap ∧ State.reset.stackWf = true ∧
      (let s := { configured State.reset oddParams with stack := [1#13, 2#13], sp := 1 }
       s.cfg.stackPolicy = .wrap ∧ s.stackWf = true ∧ s.cfg.stackDepth ≤ [3#13, 4#13].length) ∧
      State.stackWf { State.reset with cfg := { defaultParams with stackDepth := 1 }, stack := [1#13] } = true ∧
      State.reset.cfg.stackDepth ≤ (List.replicate 8 0#13).length := by decide

theorem witness_FaultPolicyRefusesOverflowAndUnderflow :
    (counting State.reset 0).cfg.stackPolicy = .fault ∧ (counting State.reset 0).depth = 0 ∧
      (counting State.reset 7).depth < (counting State.reset 7).cfg.stackDepth ∧ 0 < (counting State.reset 1).depth ∧
      (counting State.reset 8).cfg.stackDepth ≤ (counting State.reset 8).depth := by
  decide

/-- Under both policies, at the edge of the count. -/
theorem witness_CallPushesAndJumps :
    State.reset.canPush ∧ (counting State.reset 7).canPush ∧ ¬ (counting State.reset 8).canPush := by
  refine ⟨.inl rfl, .inr (by decide), ?_⟩
  unfold State.canPush
  decide

/-- Under both policies, at the edge of the count. -/
theorem witness_ReturnsPopThePc :
    State.reset.canPop ∧ (counting State.reset 1).canPop ∧ ¬ (counting State.reset 0).canPop := by
  refine ⟨.inl rfl, .inr (by decide), ?_⟩
  unfold State.canPop
  decide

theorem witness_ReturnGoesBackBehindTheCall :
    (start 0x00#8 0x00#8).canPush ∧ (start 0x00#8 0x00#8).stackWf = true ∧ (counting State.reset 0).canPush ∧
      (counting State.reset 0).stackWf = true :=
  ⟨.inl rfl, by decide, .inr (by decide), by decide⟩

/-- RETFIE with INTE and INTF set, under both policies at the edges of the count. -/
theorem witness_RetfieWithAPendingFlagReentersTheHandler :
    ([loaded 0x0009, counting (loaded 0x0009) 1, counting (loaded 0x0009) 8].all fun s =>
        let t := { s with intcon := Intcon.ofByte 0x12#8 }
        decide (t.inputs = []) && !t.sleeping && !t.intcon.gie && t.intcon.inte && t.intcon.intf &&
          decide (t.cfg.stackPolicy = .wrap ∨ (0 < t.depth ∧ t.depth ≤ t.cfg.stackDepth)) && t.stackWf &&
          decide (t.nextWord = some 0x0009#14)) = true ∧
      decode 0x0009#14 = .ok .retfie := by decide

theorem witness_RetfieUndoesInterruptEntry :
    State.canPush { State.reset with intcon := Intcon.ofByte 0x80#8 } ∧
      State.stackWf { State.reset with intcon := Intcon.ofByte 0x80#8 } = true ∧ (Intcon.ofByte 0x80#8).gie = true :=
  ⟨.inl rfl, by decide, by decide⟩

/-- A destination of PCL, directly and through INDF, and another. -/
theorem witness_DecfszAndIncfszSkipOnZero :
    State.reset.fileReg (State.reset.resolve 0x02#7) = .pcl ∧ State.reset.fileReg (State.reset.resolve 0x0C#7) ≠ .pcl ∧
      (let s := { State.reset with fsr := 0x82#8 }
       s.fileReg (s.resolve 0x00#7) = .pcl) := by decide

/-- The highest and the lowest bit, set and clear. -/
theorem witness_BitTestsSkip :
    (reg (start 0x00#8 0x80#8)).toNat / 2 ^ 7 % 2 = 1 ∧ (reg (start 0x00#8 0x7F#8)).toNat / 2 ^ 7 % 2 ≠ 1 ∧
      (reg (start 0x00#8 0x01#8)).toNat / 2 ^ 0 % 2 = 1 ∧ (reg (start 0x00#8 0xFE#8)).toNat / 2 ^ 0 % 2 ≠ 1 := by decide

theorem witness_OptionAndTrisStoreW : 7#3 ≠ 5#3 ∧ 7#3 ≠ 6#3 ∧ 0#3 ≠ 5#3 ∧ 0#3 ≠ 6#3 := by decide

theorem witness_OptionIsMovwfInBankOne :
    let s := { State.reset with status := { State.reset.status with rp0 := true } }
    s.status.rp0 = true ∧ s.cfg.fileMap = .ofDevice ∧ s.fileReg (s.resolve 0x01#7) = .optionReg ∧
      s.fileReg (s.resolve 0x05#7) = .trisA ∧ s.fileReg (s.resolve 0x06#7) = .trisB := by decide

/-- The Watchdog enabled and disabled. -/
theorem witness_ClrwdtAndSleepClearTheWatchdog :
    State.reset.cfg.wdtEnabled = true ∧
      (configured State.reset { defaultParams with wdtEnabled := false }).cfg.wdtEnabled = false := by decide

/-- ADDWF 0x0C, 1 stores to one general-purpose register; the bounds of the clauses around it. -/
theorem witness_OnlyTheStoredFileRegisterChanges :
    (∃ t, exec (.addwf .f 0x0C#7) State.reset = .next t) ∧ (∃ t, exec .retfie State.reset = .next t) ∧
      State.reset.storeReg (.addwf .f 0x0C#7) = some (.gpr 0x0C) ∧ FileReg.gpr 0x0C ≠ .gpr 0x0D ∧
      FileReg.gpr 0x0C ≠ .intcon ∧ FileReg.gpr 0x0D ≠ .pcl ∧ FileReg.gpr 0x0D ≠ .status ∧
      FileReg.gpr 0x0C ≠ .portA ∧ FileReg.gpr 0x0C ≠ .portB := by
  refine ⟨⟨_, rfl⟩, ⟨_, rfl⟩, ?_⟩
  decide

theorem witness_WIsWrittenOnlyByItsList :
    (∃ t, exec (.movwf 0x0C#7) State.reset = .next t) ∧ writesW (.movwf 0x0C#7) = false := ⟨⟨_, rfl⟩, rfl⟩

/-- A store elsewhere, by an instruction that lists no status bit. -/
theorem witness_StatusBitsChangeOnlyAsListed :
    (∃ t, exec (.swapf .f 0x0C#7) State.reset = .next t) ∧ Instr.swapf .f 0x0C#7 ≠ .clrwdt ∧
      Instr.swapf .f 0x0C#7 ≠ .sleep ∧ State.reset.storeReg (.swapf .f 0x0C#7) = some (.gpr 0x0C) ∧
      FileReg.gpr 0x0C ≠ .status ∧ affectsC (.swapf .f 0x0C#7) = false ∧
      affectsDC (.swapf .f 0x0C#7) = false ∧ affectsZ (.swapf .f 0x0C#7) = false := by
  refine ⟨⟨_, rfl⟩, ?_⟩
  decide

/-- A plain instruction and a skip that is taken. -/
theorem witness_PcAdvancesUnlessListed :
    (∃ t, exec (.btfss 0#3 0x0C#7) (start 0x00#8 0x01#8) = .next t ∧ t.pc = 0x0102#13) ∧
      transfers (.btfss 0#3 0x0C#7) = false ∧ State.reset.storeReg (.btfss 0#3 0x0C#7) = none ∧
      (∃ t, exec .nop (start 0x00#8 0x01#8) = .next t ∧ t.pc = 0x0101#13) := by
  refine ⟨⟨_, rfl, by decide⟩, rfl, rfl, ⟨_, rfl, by decide⟩⟩

/-- MOVWF 0x0C stores to none of TMR0, INTCON and PCLATH, and RETFIE stores to no file register. -/
theorem witness_InstructionsLeaveTheRestAlone :
    (∃ t, exec (.movwf 0x0C#7) State.reset = .next t) ∧ usesStack (.movwf 0x0C#7) = false ∧
      Instr.movwf 0x0C#7 ≠ .clrwdt ∧ Instr.movwf 0x0C#7 ≠ .sleep ∧ State.reset.storeReg (.movwf 0x0C#7) = some (.gpr 0x0C) ∧
      State.reset.storeReg .retfie = none := by
  refine ⟨⟨_, rfl⟩, ?_⟩
  decide

/-- The default parameters, and others. -/
theorem witness_ResetStateIsWellFormed : paramsWf defaultParams = true ∧ paramsWf oddParams = true := by decide

theorem witness_NoStepWritesTheProgram :
    next (runs (start 0x99#8 0x01#8) 0x008C) (fun t => decide (t.prog = [(0x0100, 0x008C#14)])) = true := by decide

/-- A well-formed state with a register and a word listed, whose step stores another value, and the
value that unlists the register. -/
theorem witness_StepKeepsTheStateWellFormed :
    State.wf ((start 0x99#8 0x01#8).withFetchWord 14 0x008C) = true ∧
      next (runs (start 0x99#8 0x01#8) 0x008C) (fun t => decide (t.ram = [(0x0C, 0x99#8)])) = true ∧
      State.wf ((start 0x00#8 0x01#8).withFetchWord 14 0x008C) = true ∧
      next (runs (start 0x00#8 0x01#8) 0x008C) (fun t => decide (t.ram = [])) = true := by decide

/-- Each reason for a refusal, in a step that runs an instruction, awake and on a wake-up, and in one that
takes an interrupt. -/
theorem witness_StepRefusesOnlyWithoutMeaning :
    refuses (step (start 0x00#8 0x00#8)) (.fetchOutsideImage 0x0100#13) = true ∧
      refuses (runs (start 0x00#8 0x00#8) 0x0061) (.unassignedEncoding 0x0061#14) = true ∧
      refuses (runs (start 0x00#8 0x00#8) 0x0067) (.trisNoSuchPort 7#3) = true ∧
      refuses (runs (start 0x00#8 0x00#8) 0x0B82) .skipWithPclDestination = true ∧
      refuses (runs (start 0x00#8 0x00#8) 0x0F82) .skipWithPclDestination = true ∧
      refuses (runs (counting (start 0x00#8 0x00#8) 8) 0x2000) .stackOverflow = true ∧
      refuses (runs (counting (start 0x00#8 0x00#8) 0) 0x0009) .stackUnderflow = true ∧
      refuses (runs { raising intEvent 0x10#8 with sleeping := true } 0x0061) (.unassignedEncoding 0x0061#14) = true ∧
      refuses (step (counting (raising intEvent 0x90#8) 8)) .stackOverflow = true := by decide

/-- States in which a step runs an instruction, awake and on a wake-up. -/
theorem witness_StepRefusesOnlyWithoutMeaning_runs :
    (loaded 0x0061).RunsInstruction ∧ (start 0x00#8 0x00#8).RunsInstruction ∧
      State.RunsInstruction { raising intEvent 0x10#8 with sleeping := true } := by
  unfold State.RunsInstruction State.Undisturbed State.TimesOut State.WdtMayTimeOut State.PendingFlag State.WakeFlag
  refine ⟨?_, ?_, ?_⟩ <;> decide

/-- What such a step finds at the PC, and a state in which a step takes an interrupt. -/
theorem witness_StepRefusesOnlyWithoutMeaning_words :
    (loaded 0x0061).nextWord = some 0x0061#14 ∧ (start 0x00#8 0x00#8).nextWord = none ∧
      (counting (raising intEvent 0x90#8) 8).TakesInterrupt := by
  unfold State.TakesInterrupt State.Undisturbed State.TimesOut State.WdtMayTimeOut State.PendingFlag State.WakeFlag
  decide

end Sys2Proof.Tests
end

section
/-! ### What an instruction can do -/

namespace Sys2Proof.Machine

/-- An update of the arithmetic status bits stays within the instruction's "Status Affected" entry
(rule R30). -/
structure FlagUpdate.Within (u : FlagUpdate) (i : Instr) : Prop where
  c : affectsC i = false → u.c = none
  dc : affectsDC i = false → u.dc = none
  z : affectsZ i = false → u.z = none

theorem noFlags_within (i : Instr) : noFlags.Within i :=
  ⟨fun _ => rfl, fun _ => rfl, fun _ => rfl⟩

theorem zFlag_within {i : Instr} (r : Byte) (hz : affectsZ i = true) : (zFlag r).Within i :=
  ⟨fun _ => rfl, fun _ => rfl, fun h => by simp [hz] at h⟩

theorem cFlag_within {i : Instr} (c : Bool) (hc : affectsC i = true) : (cFlag c).Within i :=
  ⟨fun h => by simp [hc] at h, fun _ => rfl, fun _ => rfl⟩

theorem aluFlags_within {i : Instr} (r : AluResult) (hc : affectsC i = true)
    (hdc : affectsDC i = true) (hz : affectsZ i = true) : (aluFlags r).Within i :=
  ⟨fun h => by simp [hc] at h, fun h => by simp [hdc] at h, fun h => by simp [hz] at h⟩

/-- The ways in which `exec i s` can answer the next state `t`: by where the result goes and how the
instruction ends. -/
inductive Executes (s : State) : Instr → State → Prop where
  /-- The result goes to W. -/
  | toW {i : Instr} (v : Byte) (u : FlagUpdate) (hw : writesW i = true) (hu : u.Within i) :
      Executes s i (s.toW v u)
  /-- The result goes to the file register the instruction stores to. -/
  | toFile {i : Instr} (r : FileReg) (v : Byte) (u : FlagUpdate) (hr : s.storeReg i = some r)
      (hu : u.Within i) : Executes s i (s.toFile r v u)
  /-- The result goes to W, and a zero result skips. -/
  | skipW {i : Instr} (v : Byte) (b : Bool) (hw : writesW i = true) (hs : skips i = true) :
      Executes s i (State.skipIf { s with w := v } b)
  /-- The result goes to a file register, and a zero result skips. -/
  | skipFile {i : Instr} (r : FileReg) (v : Byte) (b : Bool) (hr : s.storeReg i = some r)
      (hpcl : r ≠ .pcl) (hs : skips i = true) : Executes s i ((s.writeReg r v false).skipIf b)
  /-- A bit test writes nothing. -/
  | test {i : Instr} (b : Bool) (hs : skips i = true) : Executes s i (s.skipIf b)
  | nop : Executes s .nop s.advance
  | goto (k : BitVec 11) : Executes s (.goto k) (s.jump (s.target k))
  | call {t : State} (k : BitVec 11) (hp : s.push s.returnAddress = .ok t) :
      Executes s (.call k) (t.jump (s.target k))
  | ret {t : State} (hp : s.pop = .ok t) : Executes s .ret (t.jump s.tos)
  | retlw {t : State} (k : Byte) (hp : State.pop { s with w := k } = .ok t) :
      Executes s (.retlw k) (t.jump s.tos)
  | retfie {t : State} (hp : (s.setGie true).pop = .ok t) : Executes s .retfie (t.jump s.tos)
  | clrwdt (he : s.cfg.wdtEnabled = true) :
      Executes s .clrwdt (s.advance.clearWdt.setToPd true true)
  | clrwdtDisabled (he : s.cfg.wdtEnabled = false) :
      Executes s .clrwdt (s.advance.setToPd true true)
  | sleep : Executes s .sleep { s.advance.clearWdt.setToPd true false with sleeping := true }

/-- TRIS answers a next state for ports A and B only. -/
theorem execTris_next {f : BitVec 3} {s t : State} (h : execTris f s = .next t) :
    (f = 5#3 ∧ t = s.toFile .trisA s.w noFlags) ∨ (f = 6#3 ∧ t = s.toFile .trisB s.w noFlags) := by
  unfold execTris at h
  split at h
  case h_1 hf => cases h; exact .inl ⟨BitVec.eq_of_toNat_eq hf, rfl⟩
  case h_2 hf => cases h; exact .inr ⟨BitVec.eq_of_toNat_eq hf, rfl⟩
  case h_3 => cases h

namespace Executes

variable {s t : State} {i : Instr}

/-- An instruction of rule R120 with a destination designator. -/
theorem toDest (d : Dest) (r : FileReg) (v : Byte) {u : FlagUpdate}
    (hw : d = .w → writesW i = true) (hf : d = .f → s.storeReg i = some r) (hu : u.Within i) :
    Executes s i (s.toDest d r v u) := by
  cases d with
  | w => exact .toW v u (hw rfl) hu
  | f => exact .toFile r v u (hf rfl) hu

/-- DECFSZ and INCFSZ. -/
theorem toDestSkipZero {d : Dest} {r : FileReg} {v : Byte} (h : s.toDestSkipZero d r v = .next t)
    (hw : d = .w → writesW i = true) (hf : d = .f → s.storeReg i = some r)
    (hs : skips i = true) : Executes s i t := by
  obtain ⟨hd, he⟩ | ⟨hd, hpcl, he⟩ | ⟨-, -, he⟩ := s.toDestSkipZero_cases d r v <;>
    rw [he] at h <;> cases h
  · exact .skipW v _ (hw hd) hs
  · exact .skipFile r v _ (hf hd) hpcl hs

/-- Every next state an instruction answers is reached in one of these ways. -/
theorem of_exec (h : exec i s = .next t) : Executes s i t := by
  cases i with
  | addwf d f | subwf d f =>
    cases h
    exact toDest d _ _ (by rintro rfl; rfl) (by rintro rfl; rfl) (aluFlags_within _ rfl rfl rfl)
  | andwf d f | comf d f | decf d f | incf d f | iorwf d f | movf d f | xorwf d f =>
    cases h; exact toDest d _ _ (by rintro rfl; rfl) (by rintro rfl; rfl) (zFlag_within _ rfl)
  | rlf d f | rrf d f =>
    cases h; exact toDest d _ _ (by rintro rfl; rfl) (by rintro rfl; rfl) (cFlag_within _ rfl)
  | swapf d f =>
    cases h; exact toDest d _ _ (by rintro rfl; rfl) (by rintro rfl; rfl) (noFlags_within _)
  | decfsz d f | incfsz d f =>
    exact toDestSkipZero h (by rintro rfl; rfl) (by rintro rfl; rfl) rfl
  | clrf f => cases h; exact .toFile _ _ _ rfl (zFlag_within _ rfl)
  | movwf f | bcf b f | bsf b f | option => cases h; exact .toFile _ _ _ rfl (noFlags_within _)
  | clrw | andlw k | iorlw k | xorlw k => cases h; exact .toW _ _ rfl (zFlag_within _ rfl)
  | addlw k | sublw k => cases h; exact .toW _ _ rfl (aluFlags_within _ rfl rfl rfl)
  | movlw k => cases h; exact .toW _ _ rfl (noFlags_within _)
  | btfsc b f | btfss b f => cases h; exact .test _ rfl
  | nop => cases h; exact .nop
  | goto k => cases h; exact .goto k
  | call k => obtain ⟨u, hp, rfl⟩ := State.pushAndJump_next h; exact .call k hp
  | ret => obtain ⟨u, hp, rfl⟩ := State.popAndJump_next h; exact .ret hp
  | retlw k => obtain ⟨u, hp, rfl⟩ := State.popAndJump_next h; exact .retlw k hp
  | retfie => obtain ⟨u, hp, rfl⟩ := State.returnFromInterrupt_next h; exact .retfie hp
  | sleep => cases h; exact .sleep
  | clrwdt =>
    cases h
    cases he : s.cfg.wdtEnabled with
    | true => exact .clrwdt he
    | false => exact .clrwdtDisabled he
  | tris f =>
    obtain ⟨rfl, rfl⟩ | ⟨rfl, rfl⟩ := execTris_next h
    · exact .toFile _ _ _ rfl (noFlags_within _)
    · exact .toFile _ _ _ rfl (noFlags_within _)

end Executes

end Sys2Proof.Machine
end

section
/-! ### What every step keeps -/

namespace Sys2Proof.Machine

/-- `State.wf` as a record of its clauses. -/
structure State.WellFormed (s : State) : Prop where
  params : paramsWf s.cfg = true
  canonical : Memory.wf s.ram = true
  mapped : (s.ram.all fun c => hasGpr s.cfg c.1) = true
  rises : cellsRise s.prog = true
  loaded : (s.prog.all fun c => decide (c.1 < s.cfg.progWords)) = true
  cells : s.stack.length = s.cfg.stackDepth
  pointer : s.sp < s.cfg.stackDepth
  live : s.depth ≤ s.cfg.stackDepth
  cleared : s.wdtClearedAt ≤ s.cycles + s.sleepTime

theorem State.wf_iff {s : State} : s.wf = true ↔ s.WellFormed := by
  simp only [State.wf, State.stackWf, Bool.and_eq_true, decide_eq_true_eq]
  constructor
  · rintro ⟨⟨⟨⟨⟨⟨⟨hp, hc⟩, hm⟩, hr⟩, hl⟩, hn, hs⟩, hd⟩, ht⟩
    exact ⟨hp, hc, hm, hr, hl, hn, hs, hd, ht⟩
  · rintro ⟨hp, hc, hm, hr, hl, hn, hs, hd, ht⟩
    exact ⟨⟨⟨⟨⟨⟨⟨hp, hc⟩, hm⟩, hr⟩, hl⟩, hn, hs⟩, hd⟩, ht⟩

theorem stackDepth_pos_of_paramsWf {p : Params} (h : paramsWf p = true) : 0 < p.stackDepth := by
  simp only [paramsWf, Bool.and_eq_true, decide_eq_true_eq] at h
  obtain ⟨⟨-, hdepth⟩, -⟩ := h
  exact hdepth

theorem State.storeReg_tris (s : State) (f : BitVec 3) :
    s.storeReg (.tris f) =
      if f = 5#3 then some .trisA else if f = 6#3 then some .trisB else none := rfl

/-- A store designates a register that an address names, or one OPTION or TRIS writes. -/
theorem State.hasGpr_of_storeReg {s : State} {i : Instr} {n : Nat}
    (h : s.storeReg i = some (.gpr n)) : hasGpr s.cfg n = true := by
  cases i with
  | addwf d f | andwf d f | comf d f | decf d f | decfsz d f | incf d f | incfsz d f | iorwf d f
  | movf d f | rlf d f | rrf d f | subwf d f | swapf d f | xorwf d f =>
    cases d with
    | w => cases h
    | f => exact hasGpr_of_regAt (Option.some.inj h)
  | clrf f | movwf f | bcf _ f | bsf _ f => exact hasGpr_of_regAt (Option.some.inj h)
  | tris f =>
    rw [storeReg_tris] at h
    split_ifs at h <;> cases h
  | _ => cases h

namespace State.WellFormed

variable {s t : State}

theorem stackDepth_pos (h : s.WellFormed) : 0 < s.cfg.stackDepth :=
  stackDepth_pos_of_paramsWf h.params

theorem advance (h : s.WellFormed) : s.advance.WellFormed :=
  { h with cleared := Nat.le_trans h.cleared (by simp) }

theorem skipIf (h : s.WellFormed) (b : Bool) : (s.skipIf b).WellFormed :=
  { h with cleared := Nat.le_trans h.cleared (by simp) }

theorem jump (h : s.WellFormed) (a : ProgAddr) : (s.jump a).WellFormed :=
  { h with cleared := Nat.le_trans h.cleared (by simp) }

theorem endWrite (h : s.WellFormed) (r : FileReg) : (s.endWrite r).WellFormed :=
  { h with cleared := Nat.le_trans h.cleared (by simp) }

theorem setW (h : s.WellFormed) (v : Byte) : State.WellFormed { s with w := v } := { h with }

theorem setFlags (h : s.WellFormed) (u : FlagUpdate) : (s.setFlags u).WellFormed := { h with }

theorem setGie (h : s.WellFormed) (b : Bool) : (s.setGie b).WellFormed := { h with }

theorem setToPd (h : s.WellFormed) (a b : Bool) : (s.setToPd a b).WellFormed := { h with }

theorem setSleeping (h : s.WellFormed) (b : Bool) :
    State.WellFormed { s with sleeping := b } := { h with }

theorem clearWdt (h : s.WellFormed) : s.clearWdt.WellFormed := { h with cleared := Nat.le_refl _ }

/-- A file write keeps the data memory canonical and within the map. -/
theorem writeReg (h : s.WellFormed) {r : FileReg} (v : Byte) (fl : Bool)
    (hr : ∀ n, r = .gpr n → hasGpr s.cfg n = true) : (s.writeReg r v fl).WellFormed := by
  obtain ⟨hc, hm⟩ := writeReg_ram_wf r v fl h.canonical h.mapped hr
  exact
    { params := by simpa using h.params
      canonical := hc
      mapped := by simpa using hm
      rises := by simpa using h.rises
      loaded := by simpa using h.loaded
      cells := by simpa using h.cells
      pointer := by simpa using h.pointer
      live := by simpa using h.live
      cleared := by simpa using h.cleared }

/-- A push moves the pointer modulo `STACK_DEPTH` and counts no entry beyond it. -/
theorem push (h : s.WellFormed) {v : ProgAddr} (hp : s.push v = .ok t) : t.WellFormed := by
  obtain ⟨ht, hd⟩ := push_ok hp
  have hlive : t.depth ≤ s.cfg.stackDepth := by
    obtain ⟨-, hd⟩ | ⟨-, hlt, hd⟩ := hd <;> have := h.live <;> omega
  rw [ht]
  exact { h with
    cells := by simpa using h.cells, pointer := Nat.mod_lt _ h.stackDepth_pos, live := hlive }

/-- A pop moves the pointer modulo `STACK_DEPTH` and counts no more entries. -/
theorem pop (h : s.WellFormed) (hp : s.pop = .ok t) : t.WellFormed := by
  obtain ⟨ht, hd⟩ := pop_ok hp
  have hlive : t.depth ≤ s.cfg.stackDepth := by
    obtain ⟨-, hd⟩ | ⟨-, -, hd⟩ := hd <;> have := h.live <;> omega
  rw [ht]
  exact { h with pointer := Nat.mod_lt _ h.stackDepth_pos, live := hlive }

theorem exec {i : Instr} (h : s.WellFormed) (he : exec i s = .next t) : t.WellFormed := by
  cases Executes.of_exec he with
  | toW v u => exact ((h.setW v).setFlags u).advance
  | toFile r v u hr =>
    exact ((h.writeReg v _ fun n hn => hasGpr_of_storeReg (hn ▸ hr)).setFlags u).endWrite r
  | skipW v b => exact (h.setW v).skipIf b
  | skipFile r v b hr =>
    exact (h.writeReg v _ fun n hn => hasGpr_of_storeReg (hn ▸ hr)).skipIf b
  | test b => exact h.skipIf b
  | nop => exact h.advance
  | goto k => exact h.jump _
  | call k hp => exact (h.push hp).jump _
  | ret hp => exact (h.pop hp).jump _
  | retlw k hp => exact ((h.setW k).pop hp).jump _
  | retfie hp => exact ((h.setGie true).pop hp).jump _
  | clrwdt => exact h.advance.clearWdt.setToPd true true
  | clrwdtDisabled => exact h.advance.setToPd true true
  | sleep => exact (h.advance.clearWdt.setToPd true false).setSleeping true

theorem interruptEntry (h : s.WellFormed) (he : s.interruptEntry = .next t) : t.WellFormed := by
  obtain ⟨u, hp, rfl⟩ := interruptEntry_next he
  exact ((h.setGie false).push hp).jump _

theorem takeInput (h : s.WellFormed) : s.takeInput.WellFormed := { h with }

/-- The devices touch neither memory nor the stack, and the time asleep only grows. -/
theorem devices (h : s.WellFormed) (i : Input) : (s.devices i).WellFormed := by
  have hcleared : s.wdtClearedAt ≤ s.cycles + (s.devices i).sleepTime := by
    rw [devices_sleepTime]; have := h.cleared; split <;> omega
  rw [devices_frame]
  exact { h with cleared := hcleared }

/-- A reset, whatever a power-on draws. -/
theorem applyReset (h : s.WellFormed) (k : ResetKind) : (s.applyReset k).WellFormed := by
  cases k with
  | powerOn x =>
    obtain ⟨hc, hm⟩ := loadGprs_wf s.cfg x.gpr
    exact { h with
      canonical := hc, mapped := hm, cells := fitStack_length _ _
      pointer := Nat.mod_lt _ h.stackDepth_pos, live := Nat.zero_le _, cleared := Nat.le_refl _ }
  | mclrNormal | mclrSleep | wdt =>
    exact { h with live := Nat.zero_le _, cleared := Nat.le_refl _ }

theorem timeOut (h : s.WellFormed) : s.timeOut.WellFormed := by
  obtain ⟨-, ht⟩ | ⟨-, ht⟩ := s.timeOut_cases <;> rw [ht]
  · exact h.applyReset _
  · exact { h with cleared := Nat.le_refl _ }

theorem runInstruction (h : s.WellFormed) (hr : s.runInstruction = .next t) : t.WellFormed := by
  obtain ⟨_, -, he⟩ | ⟨_, _, -, -, he⟩ | ⟨_, i, -, -, he⟩ := s.runInstruction_cases <;>
    rw [he] at hr
  · cases hr
  · cases hr
  · exact h.exec hr

theorem act (h : s.WellFormed) {a : Action} (ha : s.act a = .next t) : t.WellFormed := by
  cases a with
  | timeOut => cases ha; exact h.timeOut
  | stayAsleep => cases ha; exact h
  | wake => exact (h.setSleeping false).runInstruction ha
  | interrupt => exact h.interruptEntry ha
  | run => exact h.runInstruction ha

theorem step (h : s.WellFormed) (hs : step s = .next t) : t.WellFormed := by
  obtain ⟨r, -, he⟩ | ⟨-, he⟩ := step_cases s <;> rw [he] at hs
  · cases hs; exact h.takeInput.applyReset _
  · exact (h.takeInput.devices _).act hs

/-- The state after reset has an empty memory, no program and a stack of zeros. -/
theorem resetOf {p : Params} (h : paramsWf p = true) : (State.resetOf p).WellFormed where
  params := h
  canonical := Memory.wf_nil
  mapped := rfl
  rises := rfl
  loaded := rfl
  cells := List.length_replicate
  pointer := stackDepth_pos_of_paramsWf h
  live := Nat.zero_le _
  cleared := Nat.le_refl _

end State.WellFormed

/-- Settles O58: each thing a step can do keeps every clause of `State.WellFormed`. -/
theorem stepKeepsTheStateWellFormed : Obligations.StepKeepsTheStateWellFormed := by
  intro s t hs hst
  exact State.wf_iff.2 ((State.wf_iff.1 hs).step hst)

/-- Settles O59. -/
theorem resetStateIsWellFormed : Obligations.ResetStateIsWellFormed :=
  ⟨State.wf_iff.2 (.resetOf (by decide)), fun _ hp => State.wf_iff.2 (.resetOf hp)⟩

end Sys2Proof.Machine
end

section
/-! ### What an instruction leaves unchanged -/

namespace Sys2Proof.Machine

/-- A write of one file register does not change what another one reads as. -/
theorem State.readReg_writeReg_of_ne {s : State} {r q : FileReg} (v : Byte) (fl : Bool)
    (h : r ≠ q) : (s.writeReg r v fl).readReg q = s.readReg q := by
  cases q with
  | indf | unimplemented => rfl
  | portA | portB => simp [State.readReg]
  | gpr n => exact State.readCell_writeReg v fl h
  | tmr0 => exact State.writeReg_tmr0 v fl h
  | pcl => simp [State.readReg, State.writeReg_pc v fl h]
  | status => simp [State.readReg, State.writeReg_status v fl h]
  | fsr => exact State.writeReg_fsr v fl h
  | eedata => exact State.writeReg_eedata v fl h
  | eeadr => exact State.writeReg_eeadr v fl h
  | pclath => simp [State.readReg, State.writeReg_pclath v fl h]
  | intcon => simp [State.readReg, State.writeReg_intcon v fl h]
  | optionReg => exact State.writeReg_optionReg v fl h
  | trisA => simp [State.readReg, State.writeReg_trisA v fl h]
  | trisB => exact State.writeReg_trisB v fl h
  | eecon1 => simp [State.readReg, State.writeReg_eecon1 v fl h]
  | eecon2 => exact State.writeReg_eecon2 v fl h

/-- No file write touches TO and PD, one of STATUS included (rule R32). -/
theorem State.writeReg_toPd (s : State) (r : FileReg) (v : Byte) (fl : Bool) :
    (s.writeReg r v fl).status.toBit = s.status.toBit ∧
      (s.writeReg r v fl).status.pdBit = s.status.pdBit := by
  by_cases h : r = .status
  · subst h; exact Status.write_toPd _ fl v s.status
  · rw [State.writeReg_status v fl h]; exact ⟨rfl, rfl⟩

/-- `m` is `s` after what the instruction `i` stores to a file register, if it stores to one. -/
inductive State.Stores (s : State) (i : Instr) : State → Prop where
  | nothing : s.Stores i s
  | register {r : FileReg} (v : Byte) (fl : Bool) (hr : s.storeReg i = some r) :
      s.Stores i (s.writeReg r v fl)

namespace State.Stores

variable {s m : State} {i : Instr}

/-- What only a write of the register `q` can change stays, unless the instruction stores to `q`. -/
theorem eq_of_ne {α : Type} (g : State → α) {q : FileReg} (h : s.Stores i m)
    (hg : ∀ r v fl, r ≠ q → g (s.writeReg r v fl) = g s) (hq : s.storeReg i ≠ some q) :
    g m = g s := by
  cases h with
  | nothing => rfl
  | register v fl hr => exact hg _ v fl fun hrq => hq (hrq ▸ hr)

theorem readReg (h : s.Stores i m) {q : FileReg} (hq : s.storeReg i ≠ some q) :
    m.readReg q = s.readReg q :=
  h.eq_of_ne (State.readReg · q) (fun _ v fl => readReg_writeReg_of_ne v fl) hq

theorem latchA (h : s.Stores i m) (hq : s.storeReg i ≠ some .portA) : m.latchA = s.latchA :=
  h.eq_of_ne State.latchA (fun _ v fl => writeReg_latchA v fl) hq

theorem latchB (h : s.Stores i m) (hq : s.storeReg i ≠ some .portB) : m.latchB = s.latchB :=
  h.eq_of_ne State.latchB (fun _ v fl => writeReg_latchB v fl) hq

theorem intcon (h : s.Stores i m) (hq : s.storeReg i ≠ some .intcon) : m.intcon = s.intcon :=
  h.eq_of_ne State.intcon (fun _ v fl => writeReg_intcon v fl) hq

theorem pclath (h : s.Stores i m) (hq : s.storeReg i ≠ some .pclath) : m.pclath = s.pclath :=
  h.eq_of_ne State.pclath (fun _ v fl => writeReg_pclath v fl) hq

/-- No store reaches the program, the parameters, the pins, the inputs or the time asleep. -/
theorem fixed (h : s.Stores i m) :
    m.prog = s.prog ∧ m.cfg = s.cfg ∧ m.pinsA = s.pinsA ∧ m.pinsB = s.pinsB ∧
      m.inputs = s.inputs ∧ m.sleepTime = s.sleepTime := by
  cases h with
  | nothing => exact ⟨rfl, rfl, rfl, rfl, rfl, rfl⟩
  | register v fl => simp

end State.Stores

namespace Executes

variable {s t : State} {i : Instr}

/-- Beyond its store an instruction changes only W, the PC, STATUS, INTCON, the stack, the
Watchdog's fields, `sleeping` and the cycles. -/
theorem frame (h : Executes s i t) : ∃ m, s.Stores i m ∧
    t = { m with
      w := t.w, pc := t.pc, stack := t.stack, sp := t.sp, depth := t.depth, status := t.status
      intcon := t.intcon, prescaler := t.prescaler, wdt := t.wdt, sleeping := t.sleeping
      cycles := t.cycles, wdtClearedAt := t.wdtClearedAt } := by
  cases h with
  | toFile r v u hr => exact ⟨_, .register v u.affects hr, rfl⟩
  | skipFile r v b hr => exact ⟨_, .register v false hr, rfl⟩
  | call k hp => exact ⟨s, .nothing, by rw [(State.push_ok hp).1]; rfl⟩
  | ret hp | retlw k hp | retfie hp =>
    exact ⟨s, .nothing, by rw [(State.pop_ok hp).1]; rfl⟩
  | toW | skipW | test | nop | goto | clrwdt | clrwdtDisabled | sleep => exact ⟨s, .nothing, rfl⟩

theorem w_eq (h : Executes s i t) (hi : writesW i = false) : t.w = s.w := by
  cases h with
  | toW v u hw | skipW v b hw => exact absurd (hi.symm.trans hw) nofun
  | retlw => cases hi
  | toFile r v u => exact State.writeReg_w s r v _
  | skipFile r v b => exact State.writeReg_w s r v _
  | call k hp => rw [(State.push_ok hp).1]; rfl
  | ret hp | retfie hp => rw [(State.pop_ok hp).1]; rfl
  | test | nop | goto | clrwdt | clrwdtDisabled | sleep => rfl

/-- Only CALL and the returns touch the stack. -/
theorem stack_eq (h : Executes s i t) (hi : usesStack i = false) :
    t.stack = s.stack ∧ t.sp = s.sp ∧ t.depth = s.depth := by
  cases h with
  | call | ret | retlw | retfie => cases hi
  | toFile r v u => simp [State.toFile]
  | skipFile r v b => simp
  | toW | skipW | test | nop | goto | clrwdt | clrwdtDisabled | sleep => exact ⟨rfl, rfl, rfl⟩

/-- Only CLRWDT and SLEEP clear the Watchdog; a store to TMR0 may clear the prescaler too. -/
theorem watchdog_eq (h : Executes s i t) (hc : i ≠ .clrwdt) (hs : i ≠ .sleep) :
    t.wdt = s.wdt ∧ t.wdtClearedAt = s.wdtClearedAt ∧
      (s.storeReg i ≠ some .tmr0 → t.prescaler = s.prescaler) := by
  cases h with
  | clrwdt | clrwdtDisabled => exact absurd rfl hc
  | sleep => exact absurd rfl hs
  | toFile r v u hr =>
    exact ⟨State.writeReg_wdt s r v _, State.writeReg_wdtClearedAt s r v _,
      fun h => State.writeReg_prescaler v _ fun hrq => h (hrq ▸ hr)⟩
  | skipFile r v b hr =>
    exact ⟨State.writeReg_wdt s r v _, State.writeReg_wdtClearedAt s r v _,
      fun h => State.writeReg_prescaler v _ fun hrq => h (hrq ▸ hr)⟩
  | call k hp => rw [(State.push_ok hp).1]; exact ⟨rfl, rfl, fun _ => rfl⟩
  | ret hp | retlw k hp | retfie hp => rw [(State.pop_ok hp).1]; exact ⟨rfl, rfl, fun _ => rfl⟩
  | toW | skipW | test | nop | goto => exact ⟨rfl, rfl, fun _ => rfl⟩

theorem sleeping_eq (h : Executes s i t) (hs : i ≠ .sleep) : t.sleeping = s.sleeping := by
  cases h with
  | sleep => exact absurd rfl hs
  | toFile r v u => exact State.writeReg_sleeping s r v _
  | skipFile r v b => exact State.writeReg_sleeping s r v _
  | call k hp => rw [(State.push_ok hp).1]; rfl
  | ret hp | retlw k hp | retfie hp => rw [(State.pop_ok hp).1]; rfl
  | toW | skipW | test | nop | goto | clrwdt | clrwdtDisabled => rfl

theorem intcon_of_ne_retfie (h : Executes s i t) (hi : i ≠ .retfie)
    (hs : s.storeReg i ≠ some .intcon) : t.intcon = s.intcon := by
  cases h with
  | retfie => exact absurd rfl hi
  | toFile r v u hr => exact State.writeReg_intcon v _ fun hrq => hs (hrq ▸ hr)
  | skipFile r v b hr => exact State.writeReg_intcon v _ fun hrq => hs (hrq ▸ hr)
  | call k hp => rw [(State.push_ok hp).1]; rfl
  | ret hp | retlw k hp => rw [(State.pop_ok hp).1]; rfl
  | toW | skipW | test | nop | goto | clrwdt | clrwdtDisabled | sleep => rfl

/-- But for a store to INTCON, RETFIE sets GIE and no other instruction touches INTCON. -/
theorem intcon_eq (h : Executes s i t) (hs : s.storeReg i ≠ some .intcon) :
    t.intcon = { s.intcon with gie := s.intcon.gie || decide (i = .retfie) } := by
  by_cases hi : i = .retfie
  · subst hi
    cases h with
    | retfie hp => rw [(State.pop_ok hp).1]; simp
    | toW v u hw | skipW v b hw => cases hw
    | toFile r v u hr | skipFile r v b hr => cases hr
    | test b hskip => cases hskip
  · simpa [hi] using h.intcon_of_ne_retfie hi hs

/-- Only CLRWDT and SLEEP write TO and PD (rule R31). -/
theorem toPd_eq (h : Executes s i t) (hc : i ≠ .clrwdt) (hs : i ≠ .sleep) :
    t.status.toBit = s.status.toBit ∧ t.status.pdBit = s.status.pdBit := by
  cases h with
  | clrwdt | clrwdtDisabled => exact absurd rfl hc
  | sleep => exact absurd rfl hs
  | toFile r v u => exact State.writeReg_toPd s r v _
  | skipFile r v b => exact State.writeReg_toPd s r v _
  | call k hp => rw [(State.push_ok hp).1]; exact ⟨rfl, rfl⟩
  | ret hp | retlw k hp | retfie hp => rw [(State.pop_ok hp).1]; exact ⟨rfl, rfl⟩
  | toW | skipW | test | nop | goto => exact ⟨rfl, rfl⟩

/-- What an instruction that does not store to STATUS writes there: TO and PD, and then an update
of the bits on its list. -/
theorem status_eq (h : Executes s i t) (hi : s.storeReg i ≠ some .status) :
    ∃ u : FlagUpdate, u.Within i ∧
      t.status = u.apply { s.status with toBit := t.status.toBit, pdBit := t.status.pdBit } := by
  cases h with
  | toW v u hw hu => exact ⟨u, hu, rfl⟩
  | toFile r v u hr hu =>
    refine ⟨u, hu, ?_⟩
    simp [State.toFile, State.writeReg_status v _ fun hrq => hi (hrq ▸ hr), FlagUpdate.apply]
  | skipFile r v b hr =>
    refine ⟨noFlags, noFlags_within _, ?_⟩
    simp [State.writeReg_status v _ fun hrq => hi (hrq ▸ hr)]
  | call k hp => rw [(State.push_ok hp).1]; exact ⟨noFlags, noFlags_within _, rfl⟩
  | ret hp | retlw k hp | retfie hp =>
    rw [(State.pop_ok hp).1]; exact ⟨noFlags, noFlags_within _, rfl⟩
  | skipW | test | nop | goto | clrwdt | clrwdtDisabled | sleep =>
    exact ⟨noFlags, noFlags_within _, rfl⟩

end Executes

/-- Of the fields an instruction changes beyond its store, file reads depend only on the PC, STATUS
and INTCON. -/
theorem State.readReg_congr {s t : State} {r : FileReg}
    (h : t = { s with
      w := t.w, pc := t.pc, stack := t.stack, sp := t.sp, depth := t.depth, status := t.status
      intcon := t.intcon, prescaler := t.prescaler, wdt := t.wdt, sleeping := t.sleeping
      cycles := t.cycles, wdtClearedAt := t.wdtClearedAt })
    (hpcl : r ≠ .pcl) (hstatus : r ≠ .status) (hintcon : r = .intcon → t.intcon = s.intcon) :
    t.readReg r = s.readReg r := by
  cases r with
  | pcl => exact absurd rfl hpcl
  | status => exact absurd rfl hstatus
  | intcon => exact congrArg Intcon.toByte (hintcon rfl)
  | _ => rw [h]; rfl

/-- Settles O52: beyond its store an instruction changes only PCL, STATUS and, by RETFIE, GIE. -/
theorem onlyTheStoredFileRegisterChanges : Obligations.OnlyTheStoredFileRegisterChanges := by
  intro i s t h
  have he := Executes.of_exec h
  obtain ⟨m, hm, ht⟩ := he.frame
  have hread : ∀ r : FileReg, s.storeReg i ≠ some r → r ≠ .pcl → r ≠ .status →
      (i = .retfie → r ≠ .intcon) → t.readReg r = s.readReg r := by
    intro r hr hpcl hstatus hretfie
    have hintcon : r = .intcon → t.intcon = m.intcon := by
      rintro rfl
      rw [he.intcon_of_ne_retfie (fun hi => hretfie hi rfl) hr, hm.intcon hr]
    rw [← hm.readReg hr]
    exact State.readReg_congr ht hpcl hstatus hintcon
  refine ⟨hread, fun n hn => hread (.gpr n) hn nofun nofun (fun _ => nofun), fun hr => ?_,
    fun hr => ?_⟩
  · rw [ht]; exact hm.latchA hr
  · rw [ht]; exact hm.latchB hr

/-- Settles O53. -/
theorem wIsWrittenOnlyByItsList : Obligations.WIsWrittenOnlyByItsList :=
  fun _ _ _ h hw => (Executes.of_exec h).w_eq hw

/-- Settles O54: an instruction that does not store to STATUS writes it by an update on its list. -/
theorem statusBitsChangeOnlyAsListed : Obligations.StatusBitsChangeOnlyAsListed := by
  intro i s t h
  have he := Executes.of_exec h
  refine ⟨he.toPd_eq, fun hs => ?_⟩
  obtain ⟨u, hu, hst⟩ := he.status_eq hs
  rw [hst]
  exact ⟨fun hc => by simp [FlagUpdate.apply, hu.c hc],
    fun hdc => by simp [FlagUpdate.apply, hu.dc hdc],
    fun hz => by simp [FlagUpdate.apply, hu.z hz], rfl, rfl, rfl⟩

/-- Settles O56: the frame of the store, then each group of fields in its own lemma. -/
theorem instructionsLeaveTheRestAlone : Obligations.InstructionsLeaveTheRestAlone := by
  intro i s t h
  have he := Executes.of_exec h
  obtain ⟨m, hm, ht⟩ := he.frame
  obtain ⟨hprog, hcfg, hpinsA, hpinsB, hinputs, hsleep⟩ := hm.fixed
  refine ⟨?_, ?_, ?_, ?_, ?_, ?_, he.stack_eq, he.watchdog_eq, he.sleeping_eq, he.intcon_eq,
    fun hp => ?_⟩ <;> rw [ht]
  · exact hprog
  · exact hcfg
  · exact hpinsA
  · exact hpinsB
  · exact hinputs
  · exact hsleep
  · exact hm.pclath hp

end Sys2Proof.Machine
end

section
/-! ### The register file -/

namespace Sys2Proof.Machine

theorem isGpr_iff {d : Device} {n : Nat} : isGpr d n = true ↔ gprFirst ≤ n ∧ n ≤ gprLast d := by
  simp [isGpr]

/-- From 0x0C on, either bank holds the device's general-purpose registers and then nothing
(rule R27). -/
theorem deviceMap_of_gprFirst_le (d : Device) {a : DataAddr} (h : gprFirst ≤ a.toNat % 128) :
    deviceMap d a =
      if isGpr d (a.toNat % 128) then .gpr (a.toNat % 128) else .unimplemented := by
  unfold gprFirst at h
  unfold deviceMap
  split
  case h_12 => rfl
  all_goals omega

/-- A general-purpose register stands at its place in either bank. -/
theorem deviceMap_of_place {d : Device} {a : DataAddr} {n : Nat} (hn : isGpr d n = true)
    (ha : a.toNat % 128 = n) : deviceMap d a = .gpr n := by
  have hfirst : gprFirst ≤ n := (isGpr_iff.1 hn).1
  rw [deviceMap_of_gprFirst_le d (ha ▸ hfirst), ha, if_pos hn]

/-- Nothing stands behind the last general-purpose register of either bank. -/
theorem deviceMap_of_gprLast_lt {d : Device} {a : DataAddr} (h : gprLast d < a.toNat % 128) :
    deviceMap d a = .unimplemented := by
  have hfirst : gprFirst ≤ gprLast d := by cases d <;> decide
  rw [deviceMap_of_gprFirst_le d (by omega), if_neg (by rw [isGpr_iff]; omega)]

/-- The default map at a numbered address. -/
theorem deviceMap_eq_of_toNat {d : Device} {a : DataAddr} (k : Nat) {r : FileReg}
    (ha : a.toNat = k) (hr : deviceMap d (BitVec.ofNat 8 k) = r) : deviceMap d a = r := by
  rw [← hr, ← ha, BitVec.ofNat_toNat, BitVec.setWidth_eq]

/-- Either of two addresses of the default map that name the same register. -/
theorem deviceMap_eq_of_toNat_or {d : Device} {a : DataAddr} (j k : Nat) {r : FileReg}
    (ha : a.toNat = j ∨ a.toNat = k) (hj : deviceMap d (BitVec.ofNat 8 j) = r)
    (hk : deviceMap d (BitVec.ofNat 8 k) = r) : deviceMap d a = r :=
  ha.elim (deviceMap_eq_of_toNat j · hj) (deviceMap_eq_of_toNat k · hk)

theorem gprLast_eq (d : Device) :
    gprLast d = if d = .pic16F83 ∨ d = .pic16CR83 then 0x2F else 0x4F := by
  cases d <;> rfl

/-- A table's register at an address is that of its first entry there. -/
theorem tableReg_eq_find (entries : List (DataAddr × FileReg)) (a : DataAddr) :
    tableReg entries a =
      ((entries.find? fun e => decide (e.1 = a)).map Prod.snd).getD .unimplemented := by
  induction entries with
  | nil => rfl
  | cons e rest ih =>
    obtain ⟨b, r⟩ := e
    by_cases h : b = a <;> simp [tableReg, h, ih]

/-- In the default map a general-purpose register stands at the same place of both banks. -/
theorem deviceMap_other_bank {d : Device} {a : DataAddr} {n : Nat} (h : deviceMap d a = .gpr n) :
    deviceMap d (a ^^^ 0x80#8) = .gpr n := by
  obtain ⟨hn, hmod⟩ := deviceMap_gpr h
  have hplace : (a ^^^ 0x80#8).toNat % 128 = n := by
    rw [← hmod]; clear h hmod; revert a; decide
  exact deviceMap_of_place hn hplace

/-- Settles O19: the special registers by their addresses, the general-purpose ones by their
range. -/
theorem fileMapIsTheTable : Obligations.FileMapIsTheTable := by
  intro p a n last r
  have hlast : last = gprLast p.device := (gprLast_eq _).symm
  refine ⟨fun hmap => ?_, fun entries hmap => ?_⟩
  · have hr : r = deviceMap p.device a := by unfold r regAt; rw [hmap]
    have hle : 0x2F ≤ last ∧ last ≤ 0x4F := by rw [hlast]; cases p.device <;> decide
    have hlt : n < 256 := a.isLt
    have at1 := @deviceMap_eq_of_toNat p.device a
    have at2 := @deviceMap_eq_of_toNat_or p.device a
    rw [hr]
    refine ⟨(at2 0x00 0x80 · rfl rfl), (at1 0x01 · rfl), (at1 0x81 · rfl),
      (at2 0x02 0x82 · rfl rfl), (at2 0x03 0x83 · rfl rfl), (at2 0x04 0x84 · rfl rfl),
      (at1 0x05 · rfl), (at1 0x85 · rfl), (at1 0x06 · rfl), (at1 0x86 · rfl),
      (at2 0x07 0x87 · ?_ ?_), (at1 0x08 · rfl), (at1 0x88 · rfl), (at1 0x09 · rfl),
      (at1 0x89 · rfl), (at2 0x0A 0x8A · rfl rfl), (at2 0x0B 0x8B · rfl rfl), ?_, ?_, ?_, ?_⟩
    · cases p.device <;> rfl
    · cases p.device <;> rfl
    · rintro ⟨hlow, hhigh⟩
      exact deviceMap_of_place (isGpr_iff.2 ⟨hlow, by omega⟩) (by omega)
    · rintro ⟨hlow, hhigh⟩
      have hfirst : gprFirst ≤ n - 0x80 := by unfold gprFirst; omega
      exact deviceMap_of_place (isGpr_iff.2 ⟨hfirst, by omega⟩) (by omega)
    · rintro ⟨hlow, hhigh⟩
      exact deviceMap_of_gprLast_lt (by omega)
    · intro hlow
      exact deviceMap_of_gprLast_lt (by omega)
  · rw [← tableReg_eq_find]; unfold r regAt; rw [hmap]

/-- Settles O23: read after write of one cell, through each address that names it. -/
theorem generalRegisterHoldsTheLastValueWritten :
    Obligations.GeneralRegisterHoldsTheLastValueWritten := by
  intro s a v flagged n ha
  have hread : ∀ b, s.fileReg b = .gpr n →
      (s.writeReg (s.fileReg a) v flagged).readReg
        ((s.writeReg (s.fileReg a) v flagged).fileReg b) = v := by
    intro b hb
    rw [State.writeReg_fileReg, ha, hb]
    exact (readCell_writeCell n n v s.ram).trans (if_pos rfl)
  refine ⟨?_, hread, fun hmap => hread _ ?_, fun m hm => ?_⟩
  · rw [ha]; rfl
  · have hreg : ∀ b, s.fileReg b = deviceMap s.cfg.device b := by
      intro b; unfold State.fileReg regAt; rw [hmap]
    rw [hreg] at ha ⊢
    exact deviceMap_other_bank ha
  · exact State.readCell_writeReg v flagged (by rw [ha]; simpa using Ne.symm hm)

/-- Settles O21. -/
theorem statusWriteKeepsToAndPd : Obligations.StatusWriteKeepsToAndPd := by
  intro s v flagged
  refine ⟨s.status.write s.cfg.statusLayout flagged v, rfl, rfl, rfl, rfl, rfl, rfl, ?_, ?_⟩
  · rintro rfl; exact ⟨rfl, rfl, rfl⟩
  · rintro rfl; exact ⟨rfl, rfl, rfl⟩

end Sys2Proof.Machine
end

section
/-! ### Reset -/

namespace Sys2Proof.Machine

/-- A draw of the right length is taken as it is. -/
theorem fitStack_of_length {n : Nat} {cells : List ProgAddr} (h : cells.length = n) :
    fitStack n cells = cells := by
  subst h
  refine List.ext_getElem (fitStack_length _ _) fun i hi hi' => ?_
  simp [fitStack, hi']

/-- A general-purpose register of the map takes the byte the draw lists first for it. -/
theorem readCell_loadGprs {p : Params} {n : Nat} (hn : hasGpr p n = true)
    (cells : List Host.Cell) :
    readCell n (loadGprs p cells) = (cellAt n cells).getD unwrittenByte := by
  induction cells with
  | nil => rfl
  | cons c rest ih =>
    obtain ⟨k, v⟩ := c
    simp only [loadGprs, cellAt]
    by_cases hk : k = n
    · subst hk; simp [hn, readCell_writeCell]
    · rw [if_neg hk]
      split
      · rw [readCell_writeCell, if_neg hk, ih]
      · exact ih

/-- EECON1 after a power-on: WRERR is drawn, the other bits are 0. -/
theorem eecon1_of_draw (b : Bool) :
    BitVec.ofBool false ++ BitVec.ofBool b ++ 0b000#3 = if b then 0x08#5 else 0x00#5 := by
  cases b <;> rfl

/-- Settles O9: field by field, and the general-purpose registers by `readCell_loadGprs`. -/
theorem powerOnLeavesTheResetTable : Obligations.PowerOnLeavesTheResetTable := by
  intro s x
  refine ⟨?_, fitStack_of_length, fun a n ha => ?_⟩
  · rw [← eecon1_of_draw]; rfl
  · exact readCell_loadGprs (hasGpr_of_regAt ha) x.gpr

/-- Settles O11: the reset state of any parameters by its fields, the default one by evaluation. -/
theorem resetStateHoldsTheStatedValues : Obligations.ResetStateHoldsTheStatedValues :=
  ⟨fun _ => ⟨rfl, rfl, rfl, rfl, rfl, rfl, rfl, rfl,
    (by decide : State.reset.intcon.toByte &&& 0xFE#8 = 0x00#8), rfl, rfl, rfl, BitVec.zero_and,
    rfl, rfl, rfl, rfl⟩, by decide⟩

end Sys2Proof.Machine
end

section
/-! ### The return stack -/

namespace Sys2Proof.Machine

/-- A push that the policy lets through (rule R25). -/
theorem State.push_of_canPush {s : State} (h : s.canPush) (v : ProgAddr) :
    s.push v = .ok
      { s with stack := s.stack.set s.sp v, sp := s.spUp, depth := s.depthUp } := by
  unfold State.push State.depthUp
  cases hp : s.cfg.stackPolicy with
  | wrap => rfl
  | fault =>
    have hlt : s.depth < s.cfg.stackDepth := h.resolve_left (by simp [hp])
    simp [hlt]

/-- A pop that the policy lets through (rule R26). -/
theorem State.pop_of_canPop {s : State} (h : s.canPop) :
    s.pop = .ok { s with sp := s.spDown, depth := s.depthDown } := by
  unfold State.pop State.depthDown
  cases hp : s.cfg.stackPolicy with
  | wrap => rfl
  | fault =>
    have hpos : 0 < s.depth := h.resolve_left (by simp [hp])
    simp [Nat.pos_iff_ne_zero.1 hpos]

/-- A push that the policy does not let through. -/
theorem State.push_of_not_canPush {s : State} (h : ¬ s.canPush) (v : ProgAddr) :
    s.push v = .error .stackOverflow := by
  unfold State.push
  cases hp : s.cfg.stackPolicy with
  | wrap => exact absurd (.inl hp) h
  | fault => exact if_neg fun hlt => h (.inr hlt)

/-- A pop that the policy does not let through. -/
theorem State.pop_of_not_canPop {s : State} (h : ¬ s.canPop) :
    s.pop = .error .stackUnderflow := by
  unfold State.pop
  cases hp : s.cfg.stackPolicy with
  | wrap => exact absurd (.inl hp) h
  | fault => exact if_pos (Nat.eq_zero_of_not_pos fun hpos => h (.inr hpos))

theorem State.pushAndJump_of_canPush {s : State} (h : s.canPush) (v a : ProgAddr) :
    s.pushAndJump v a = .next
      { s with
        stack := s.stack.set s.sp v, sp := s.spUp, depth := s.depthUp, pc := a
        cycles := s.cycles + 2 } := by
  unfold State.pushAndJump; rw [State.push_of_canPush h]; rfl

theorem State.popAndJump_of_canPop {s : State} (h : s.canPop) :
    s.popAndJump = .next
      { s with sp := s.spDown, depth := s.depthDown, pc := s.tos, cycles := s.cycles + 2 } := by
  unfold State.popAndJump; rw [State.pop_of_canPop h]; rfl

theorem State.pushAndJump_of_not_canPush {s : State} (h : ¬ s.canPush) (v a : ProgAddr) :
    s.pushAndJump v a = .refused .stackOverflow := by
  unfold State.pushAndJump; rw [State.push_of_not_canPush h]

theorem State.popAndJump_of_not_canPop {s : State} (h : ¬ s.canPop) :
    s.popAndJump = .refused .stackUnderflow := by
  unfold State.popAndJump; rw [State.pop_of_not_canPop h]

/-- Settles O48: each return is a pop of a state that differs from `s` in W or GIE at most. -/
theorem returnsPopThePc : Obligations.ReturnsPopThePc := by
  intro k s h
  have hw : State.canPop { s with w := k } := h
  have hgie : (s.setGie true).canPop := h
  exact ⟨State.popAndJump_of_canPop h, State.popAndJump_of_canPop hw,
    State.popAndJump_of_canPop hgie⟩

/-- Settles O28: under `fault` the count alone decides whether a push or a pop goes through. -/
theorem faultPolicyRefusesOverflowAndUnderflow :
    Obligations.FaultPolicyRefusesOverflowAndUnderflow := by
  intro s k hp
  have hpush : s.canPush ↔ s.depth < s.cfg.stackDepth := by simp [State.canPush, hp]
  have hpop : s.canPop ↔ 0 < s.depth := by simp [State.canPop, hp]
  refine ⟨fun h => ?_, fun h => ?_, fun h => ?_, fun h => ?_⟩
  · exact State.pushAndJump_of_not_canPush (by rw [hpush]; omega) _ _
  · exact ⟨_, State.pushAndJump_of_canPush (hpush.2 h) _ _, if_pos hp⟩
  · exact State.popAndJump_of_not_canPop (by rw [hpop]; omega)
  · exact ⟨_, State.popAndJump_of_canPop (hpop.2 h), if_pos hp⟩

end Sys2Proof.Machine
end

section
/-! ### The circular stack -/

namespace Sys2Proof.Machine

/-- The cell `k` places below the top, around a ring of `n` cells with the pointer at `p`. -/
def cellBelow (n p k : Nat) : Nat := (p + (k + 1) * (n - 1)) % n

theorem cellBelow_zero {n : Nat} (hn : 0 < n) (p : Nat) : cellBelow n p 0 = (p + n - 1) % n := by
  rw [cellBelow, Nat.zero_add, Nat.one_mul, Nat.add_sub_assoc hn]

/-- A step down of the pointer is a place deeper. -/
theorem cellBelow_down {n : Nat} (hn : 0 < n) (p k : Nat) :
    cellBelow n ((p + n - 1) % n) k = cellBelow n p (k + 1) := by
  rw [cellBelow, cellBelow, Nat.mod_add_mod, Nat.add_sub_assoc hn]
  congr 1; ring

/-- After a step up of the pointer every cell is a place deeper. -/
theorem cellBelow_up {n : Nat} (hn : 0 < n) (p k : Nat) :
    cellBelow n ((p + 1) % n) (k + 1) = cellBelow n p k := by
  obtain ⟨m, rfl⟩ : ∃ m, n = m + 1 := ⟨n - 1, by omega⟩
  rw [cellBelow, cellBelow, Nat.mod_add_mod, Nat.add_sub_cancel,
    show p + 1 + (k + 1 + 1) * m = p + (k + 1) * m + (m + 1) by ring, Nat.add_mod_right]

/-- Once around the ring is the same cell. -/
theorem cellBelow_mod {n : Nat} (p k : Nat) : cellBelow n p (k % n) = cellBelow n p k := by
  have h : (k % n + 1) * (n - 1) ≡ (k + 1) * (n - 1) [MOD n] :=
    ((Nat.mod_modEq k n).add_right 1).mul_right _
  exact h.add_left p

/-- The cell at the pointer is the deepest, `n - 1` below the top. -/
theorem cellBelow_ne {n p k : Nat} (hk : k + 1 < n) (hp : p < n) : cellBelow n p k ≠ p := by
  intro h
  have hround : p + (k + 1) ≡ p [MOD n] := by
    calc p + (k + 1) ≡ cellBelow n p k + (k + 1) [MOD n] := by rw [h]
      _ ≡ p + (k + 1) * (n - 1) + (k + 1) [MOD n] := (Nat.mod_modEq _ n).add_right _
      _ = p + (k + 1) * n := by
        obtain ⟨m, rfl⟩ : ∃ m, n = m + 1 := ⟨n - 1, by omega⟩
        rw [Nat.add_sub_cancel]; ring
      _ ≡ p [MOD n] := by simp [Nat.ModEq]
  have hdvd : n ∣ k + 1 := by
    simpa using (Nat.modEq_iff_dvd' (Nat.le_add_right p (k + 1))).1 hround.symm
  exact absurd (Nat.le_of_dvd (Nat.succ_pos k) hdvd) (by omega)

/-- A push without the count of live entries, on a stack of `n` cells. -/
def State.put (n : Nat) (s : State) (v : ProgAddr) : State :=
  { s with stack := s.stack.set s.sp v, sp := (s.sp + 1) % n }

/-- A pop without the count of live entries, on a stack of `n` cells. -/
def State.down (n : Nat) (s : State) : State := { s with sp := (s.sp + n - 1) % n }

theorem State.push_of_wrap {s : State} (h : s.cfg.stackPolicy = .wrap) (v : ProgAddr) :
    s.push v = .ok (s.put s.cfg.stackDepth v) := by
  unfold State.push; rw [h]; rfl

theorem State.pop_of_wrap {s : State} (h : s.cfg.stackPolicy = .wrap) :
    s.pop = .ok (s.down s.cfg.stackDepth) := by
  unfold State.pop; rw [h]; rfl

/-- The stack has `n` cells and holds the newest of the values `vs`, newest first, as far as it has
cells for them. -/
structure State.HoldsNewest (n : Nat) (vs : List ProgAddr) (s : State) : Prop where
  size : s.cfg.stackDepth = n
  cells : s.stack.length = n
  pointer : s.sp < n
  newest : ∀ k, k < n → k < vs.length →
    s.stack.getD (cellBelow n s.sp k) 0#13 = vs.getD k 0#13

namespace State.HoldsNewest

variable {n : Nat} {vs : List ProgAddr} {s : State}

/-- A push makes its value the newest and every other one older; a full stack loses the oldest. -/
theorem put (h : s.HoldsNewest n vs) (v : ProgAddr) : (s.put n v).HoldsNewest n (v :: vs) where
  size := h.size
  cells := by simpa [State.put] using h.cells
  pointer := Nat.mod_lt _ (Nat.zero_lt_of_lt h.pointer)
  newest k hk hlen := by
    have hn : 0 < n := Nat.zero_lt_of_lt h.pointer
    cases k with
    | zero =>
      have htop : cellBelow n (s.put n v).sp 0 = s.sp :=
        (cellBelow_zero hn _).trans (spDown_spUp h.pointer)
      rw [htop]
      simp [State.put, h.cells, h.pointer]
    | succ k =>
      have hold := h.newest k (by omega) (by simpa using hlen)
      have hne : s.sp ≠ cellBelow n s.sp k := (cellBelow_ne hk h.pointer).symm
      have hcell : cellBelow n (s.put n v).sp (k + 1) = cellBelow n s.sp k := cellBelow_up hn _ _
      rw [hcell, List.getD_cons_succ, ← hold]
      simp [State.put, List.getD, hne]

/-- After any pushes the stack holds the newest of them, and of what it held before. -/
theorem foldl_put (h : s.HoldsNewest n vs) (ws : List ProgAddr) :
    (ws.foldl (State.put n) s).HoldsNewest n (ws.reverse ++ vs) := by
  induction ws generalizing s vs with
  | nil => exact h
  | cons w ws ih => simpa using ih (h.put w)

end State.HoldsNewest

/-- The top after `j` pops is the cell `j` below the top. -/
theorem State.tos_iterate_down {n : Nat} {s : State} (hn : 0 < n) (hs : s.cfg.stackDepth = n)
    (j : Nat) : ((State.down n)^[j] s).tos = s.stack.getD (cellBelow n s.sp j) 0#13 := by
  induction j generalizing s with
  | zero => rw [cellBelow_zero hn, ← hs]; rfl
  | succ j ih =>
    rw [Function.iterate_succ_apply, ih (s := s.down n) hs, ← cellBelow_down hn]
    rfl

/-- Settles O27: after the pushes the stack holds the newest of them (`foldl_put`), and the pops
walk around the ring (`tos_iterate_down`). -/
theorem stackWrapsSilently : Obligations.StackWrapsSilently := by
  intro s hwrap hwf n
  obtain ⟨hcells, hsp⟩ : s.stack.length = n ∧ s.sp < n := by
    simpa [State.stackWf] using hwf
  have hn : 0 < n := Nat.zero_lt_of_lt hsp
  refine ⟨fun v => ?_, fun vs hlen j => ?_⟩
  · have hpush := State.push_of_wrap hwrap v
    exact ⟨hpush, State.tos_push hcells hsp hpush, State.pop_of_wrap hwrap, spDown_spUp hsp,
      by simp [State.stackWf, hcells, n, Nat.mod_lt _ hn]⟩
  · have hnone : s.HoldsNewest n [] := ⟨rfl, hcells, hsp, fun _ _ h => absurd h (Nat.not_lt_zero _)⟩
    have hall := hnone.foldl_put vs
    have hj : j % n < n := Nat.mod_lt _ hn
    calc ((State.down n)^[j] (vs.foldl (State.put n) s)).tos
        = (vs.foldl (State.put n) s).stack.getD
            (cellBelow n (vs.foldl (State.put n) s).sp (j % n)) 0#13 := by
          rw [State.tos_iterate_down hn hall.size, cellBelow_mod]
      _ = (vs.reverse ++ []).getD (j % n) 0#13 :=
          hall.newest _ hj (by simpa using Nat.lt_of_lt_of_le hj hlen)
      _ = vs.reverse.getD (j % n) 0#13 := by rw [List.append_nil]

end Sys2Proof.Machine
end

section
/-! ### Access to the register file -/

namespace Sys2Proof.Machine

/-- The bank bit stands above the seven bits of f (rule R63). -/
theorem toNat_bank_append (bank : Bool) (f : FileAddr) :
    (BitVec.ofBool bank ++ f).toNat = (if bank then 128 else 0) + f.toNat := by
  rw [BitVec.toNat_append, ← Nat.shiftLeft_add_eq_or_of_lt f.isLt]
  cases bank <;> rfl

/-- Settles O18. -/
theorem resolveUsesTheBankBitOrFsr : Obligations.ResolveUsesTheBankBitOrFsr := by
  intro s f
  by_cases hf : f = 0#7
  · simp [State.resolve, hf]
  · simp [State.resolve, hf, toNat_bank_append]

/-- A byte with one bit shows it at its place and 0 at every other. -/
theorem getLsbD_bitAt (p q : BitIndex) (b : Bool) :
    (bitAt p b).getLsbD q.toNat = (decide (p = q) && b) := by
  revert p q b; decide

/-- What STATUS reads at a place: the bits the layout puts there (rule R32). -/
theorem Status.getLsbD_toByte (l : StatusLayout) (st : Status) (q : BitIndex) :
    (st.toByte l).getLsbD q.toNat =
      (decide (l.irp = q) && st.irp || decide (l.rp1 = q) && st.rp1 ||
        decide (l.rp0 = q) && st.rp0 || decide (l.toBit = q) && st.toBit ||
        decide (l.pdBit = q) && st.pdBit || decide (l.z = q) && st.z ||
        decide (l.dc = q) && st.dc || decide (l.c = q) && st.c) := by
  simp only [Status.toByte, BitVec.getLsbD_or, getLsbD_bitAt]

/-- A layout that gives every bit a place of its own shows every bit there. -/
theorem Status.toByte_of_layoutDistinct {l : StatusLayout} (st : Status)
    (h : layoutDistinct l = true) :
    (st.toByte l).getLsbD l.irp.toNat = st.irp ∧ (st.toByte l).getLsbD l.rp1.toNat = st.rp1 ∧
      (st.toByte l).getLsbD l.rp0.toNat = st.rp0 ∧
      (st.toByte l).getLsbD l.toBit.toNat = st.toBit ∧
      (st.toByte l).getLsbD l.pdBit.toNat = st.pdBit ∧ (st.toByte l).getLsbD l.z.toNat = st.z ∧
      (st.toByte l).getLsbD l.dc.toNat = st.dc ∧ (st.toByte l).getLsbD l.c.toNat = st.c := by
  have hne : [l.irp, l.rp1, l.rp0, l.toBit, l.pdBit, l.z, l.dc, l.c].Nodup := of_decide_eq_true h
  -- The reversed list gives each inequality the other way round.
  have hrev := List.nodup_reverse.2 hne
  simp at hne hrev
  simp [Status.getLsbD_toByte, hne, hrev]

/-- A register of five bits reads as 0 above them. -/
theorem setWidth_five_bits (x : BitVec 5) :
    ((List.range 8).all fun j => (x.setWidth 8).getLsbD j == x.toNat.testBit j) = true := by
  revert x; decide

/-- Settles O20: STATUS by its layout, the five-bit registers by their width, INTCON because its
byte gives it back. -/
theorem fileReadsFollowTheTable : Obligations.FileReadsFollowTheTable := by
  intro s r
  cases r with
  | pcl => simp [State.readReg]
  | status => exact Status.toByte_of_layoutDistinct s.status
  | intcon =>
    have h := Intcon.ofByte_toByte s.intcon
    exact ⟨congrArg Intcon.gie h, congrArg Intcon.eeie h, congrArg Intcon.t0ie h,
      congrArg Intcon.inte h, congrArg Intcon.rbie h, congrArg Intcon.t0if h,
      congrArg Intcon.intf h, congrArg Intcon.rbif h⟩
  | pclath | trisA | portA | eecon1 => exact setWidth_five_bits _
  | indf | unimplemented | fsr | optionReg | trisB | portB | tmr0 | eedata | eeadr | eecon2
  | gpr n => rfl

/-- Settles O22: PCL and INTCON take the byte whole, a general-purpose register by the read after
write of its cell, and a five-bit register takes the low bits. -/
theorem fileWritesFollowTheTable : Obligations.FileWritesFollowTheTable := by
  intro s r v flagged
  have hlow : v.setWidth 5 = v.extractLsb' 0 5 := BitVec.setWidth_eq_extractLsb' (by decide)
  cases r with
  | pcl =>
    refine ⟨s.pclath ++ v, rfl, ?_, ?_⟩
    · exact BitVec.extractLsb'_append_eq_right
    · exact BitVec.extractLsb'_append_eq_left
  | status => exact ⟨_, rfl⟩
  | intcon => exact ⟨_, rfl, Intcon.toByte_ofByte v⟩
  | portA | pclath | trisA | eecon1 => simp only [State.writeReg, hlow]
  | gpr n =>
    refine ⟨_, rfl, ?_, fun k hk => ?_⟩
    · exact (readCell_writeCell n n v s.ram).trans (if_pos rfl)
    · exact (readCell_writeCell n k v s.ram).trans (if_neg hk.symm)
  | indf | unimplemented | tmr0 | fsr | portB | eedata | eeadr | optionReg | trisB | eecon2 => rfl

/-- The mask of BSF and BCF has bit b alone. -/
theorem getLsbD_one_shiftLeft (b : BitIndex) (j : Nat) :
    (1#8 <<< b.toNat).getLsbD j = decide (j = b.toNat) := by
  have hb : b.toNat < 8 := b.isLt
  simp [← BitVec.twoPow_eq, hb, eq_comm]

/-- Rule R162, bit by bit. -/
theorem getLsbD_setBit (v : Byte) (b : BitIndex) (j : Nat) :
    (setBit v b).getLsbD j = (decide (j = b.toNat) || v.getLsbD j) := by
  rw [setBit, BitVec.getLsbD_or, getLsbD_one_shiftLeft, Bool.or_comm]

/-- Rule R161, bit by bit. -/
theorem getLsbD_clearBit (v : Byte) (b : BitIndex) {j : Nat} (hj : j < 8) :
    (clearBit v b).getLsbD j = (!decide (j = b.toNat) && v.getLsbD j) := by
  rw [clearBit, BitVec.getLsbD_and, BitVec.getLsbD_not, getLsbD_one_shiftLeft, Bool.and_comm,
    decide_eq_true hj, Bool.true_and]

section

variable {s : State} {f : FileAddr} (hf : s.fileReg (s.resolve f) = .portB)
include hf

/-- MOVF of port B to itself stores the pins. -/
theorem exec_movf_portB :
    exec (.movf .f f) s = .next (s.toFile .portB s.pinsB (zFlag s.pinsB)) := by
  simp only [exec, execMovf, State.operand_eq, hf]; rfl

/-- BSF of port B stores the pins with one bit set. -/
theorem exec_bsf_portB (b : BitIndex) :
    exec (.bsf b f) s = .next (s.toFile .portB (setBit s.pinsB b) noFlags) := by
  simp only [exec, execBsf, State.operand_eq, hf]; rfl

/-- BCF of port B stores the pins with one bit cleared. -/
theorem exec_bcf_portB (b : BitIndex) :
    exec (.bcf b f) s = .next (s.toFile .portB (clearBit s.pinsB b) noFlags) := by
  simp only [exec, execBcf, State.operand_eq, hf]; rfl

end

/-- Settles O24: each of the three stores in the latch what it makes of the pins. -/
theorem portReadModifyWriteUsesThePins : Obligations.PortReadModifyWriteUsesThePins := by
  intro s f b hf
  exact ⟨⟨_, exec_movf_portB hf, rfl, rfl⟩,
    ⟨_, exec_bsf_portB hf b, rfl, fun j _ => getLsbD_setBit s.pinsB b j⟩,
    ⟨_, exec_bcf_portB hf b, rfl, fun _ hj => getLsbD_clearBit s.pinsB b hj⟩⟩

/-- Where the pin is an output and outputs are driven, the pin shows the latch bit (rule R68). -/
theorem State.pinsB_of_outputPinsDriven {s : State} (h : s.outputPinsDriven = true) {j : Nat}
    (hj : j < 8) (hout : s.trisB.getLsbD j = false) : s.pinsB.getLsbD j = s.latchB.getLsbD j := by
  simp only [State.outputPinsDriven, Bool.and_eq_true, decide_eq_true_eq] at h
  obtain ⟨hB, -⟩ := h
  simpa only [BitVec.getLsbD_and, BitVec.getLsbD_not, hj, hout, decide_true, Bool.not_false,
    Bool.and_true] using congrArg (BitVec.getLsbD · j) hB

/-- Settles O25: BSF and BCF copy the other pins to the latch (`portReadModifyWriteUsesThePins`),
and those of the outputs show the latch already. -/
theorem drivenOutputsKeepTheirLatchBits : Obligations.DrivenOutputsKeepTheirLatchBits := by
  intro s f b hf hdriven
  obtain ⟨-, ⟨t, ht, -, hset⟩, u, hu, -, hclear⟩ := portReadModifyWriteUsesThePins s f b hf
  refine ⟨t, u, ht, hu, fun j hj hjb hout => ?_⟩
  rw [← State.pinsB_of_outputPinsDriven hdriven hj hout, hset j hj, hclear j hj]
  simp [hjb]

/-- An instruction that stores to `r` writes `r` and ends, or writes `r` and skips on a zero
result. -/
theorem exec_of_storeReg {i : Instr} {s t : State} {r : FileReg} (hr : s.storeReg i = some r)
    (h : exec i s = .next t) :
    (∃ v u, t = s.toFile r v u) ∨ ∃ v b, t = (s.writeReg r v false).skipIf b := by
  cases i with
  | addwf d f | andwf d f | comf d f | decf d f | incf d f | iorwf d f | movf d f | rlf d f
  | rrf d f | subwf d f | swapf d f | xorwf d f =>
    cases d with
    | w => cases hr
    | f => cases hr; cases h; exact .inl ⟨_, _, rfl⟩
  | decfsz d f | incfsz d f =>
    cases d with
    | w => cases hr
    | f =>
      cases hr
      obtain ⟨hd, -⟩ | ⟨-, -, he⟩ | ⟨-, -, he⟩ := s.toDestSkipZero_cases .f (s.operand f) _
      · cases hd
      · exact .inr ⟨_, _, Host.Outcome.next.inj (h.symm.trans he)⟩
      · cases h.symm.trans he
  | clrf f | movwf f | bcf b f | bsf b f | option => cases hr; cases h; exact .inl ⟨_, _, rfl⟩
  | tris f =>
    obtain ⟨rfl, rfl⟩ | ⟨rfl, rfl⟩ := execTris_next h <;> cases hr <;> exact .inl ⟨_, _, rfl⟩
  | _ => cases hr

/-- Settles O26: the store is a write of TMR0, whatever comes after it. -/
theorem everyStoreToTmr0ClearsItsPrescaler : Obligations.EveryStoreToTmr0ClearsItsPrescaler := by
  intro i s t hr h
  obtain ⟨v, u, rfl⟩ | ⟨v, b, rfl⟩ := exec_of_storeReg hr h
  · rfl
  · rfl

end Sys2Proof.Machine
end

section
/-! ### Program memory and the parameters -/

namespace Sys2Proof.Machine

/-- `t` has the program and the parameters of `s`. -/
def State.SameProgram (s t : State) : Prop := t.prog = s.prog ∧ t.cfg = s.cfg

namespace State.SameProgram

variable {s t u : State}

theorem trans (h : s.SameProgram t) (h' : t.SameProgram u) : s.SameProgram u :=
  ⟨h'.1.trans h.1, h'.2.trans h.2⟩

theorem takeInput (s : State) : s.SameProgram s.takeInput := ⟨rfl, rfl⟩

theorem wakeUp (s : State) : s.SameProgram s.wakeUp := ⟨rfl, rfl⟩

theorem devices (s : State) (i : Input) : s.SameProgram (s.devices i) :=
  ⟨devices_prog s i, devices_cfg s i⟩

theorem applyReset (s : State) (k : ResetKind) : s.SameProgram (s.applyReset k) :=
  applyReset_prog s k

theorem timeOut (s : State) : s.SameProgram s.timeOut := by
  obtain ⟨-, ht⟩ | ⟨-, ht⟩ := s.timeOut_cases <;> rw [ht]
  · exact applyReset s .wdt
  · exact ⟨rfl, rfl⟩

theorem interruptEntry (h : s.interruptEntry = .next t) : s.SameProgram t := by
  obtain ⟨u, hp, rfl⟩ := interruptEntry_next h
  rw [(push_ok hp).1]
  exact ⟨rfl, rfl⟩

theorem exec {i : Instr} (h : exec i s = .next t) : s.SameProgram t := by
  obtain ⟨hprog, hcfg, -⟩ := instructionsLeaveTheRestAlone i s t h
  exact ⟨hprog, hcfg⟩

theorem runInstruction (h : s.runInstruction = .next t) : s.SameProgram t := by
  obtain ⟨_, -, he⟩ | ⟨_, _, -, -, he⟩ | ⟨_, i, -, -, he⟩ := s.runInstruction_cases <;>
    rw [he] at h
  · cases h
  · cases h
  · exact exec h

theorem act {a : Action} (h : s.act a = .next t) : s.SameProgram t := by
  cases a with
  | timeOut => cases h; exact timeOut s
  | stayAsleep => cases h; exact ⟨rfl, rfl⟩
  | wake => exact (wakeUp s).trans (runInstruction h)
  | interrupt => exact interruptEntry h
  | run => exact runInstruction h

end State.SameProgram

/-- Settles O57: a reset keeps the program and the parameters, and so do the devices and each action
after them. -/
theorem noStepWritesTheProgram : Obligations.NoStepWritesTheProgram := by
  intro s t h
  have hinput := State.SameProgram.takeInput s
  obtain ⟨r, -, he⟩ | ⟨-, he⟩ := step_cases s <;> rw [he] at h
  · cases h; exact hinput.trans (.applyReset _ _)
  · exact (hinput.trans (.devices _ _)).trans (.act h)

end Sys2Proof.Machine
end

section
/-! ### The fields of a word -/

namespace Sys2Proof

/-! A word of format B is an opcode, `d` and `f` (rule R91). -/

@[simp] theorem group_formatB (op : BitVec 6) (d : Dest) (f : FileAddr) :
    (op ++ d.bit ++ f).extractLsb' 12 2 = op.extractLsb' 4 2 := by
  rw [BitVec.extractLsb'_append_eq_of_le (by decide),
    BitVec.extractLsb'_append_eq_of_le (by decide)]

@[simp] theorem nibble_formatB (op : BitVec 6) (d : Dest) (f : FileAddr) :
    (op ++ d.bit ++ f).extractLsb' 8 4 = op.extractLsb' 0 4 := by
  rw [BitVec.extractLsb'_append_eq_of_le (by decide),
    BitVec.extractLsb'_append_eq_of_le (by decide)]

theorem getLsbD_seven_formatB (op : BitVec 6) (d : Dest) (f : FileAddr) :
    (op ++ d.bit ++ f).getLsbD 7 = decide (d = .f) := by
  rw [BitVec.getLsbD_append, BitVec.getLsbD_append]
  cases d <;> rfl

@[simp] theorem bitSeven_formatB (op : BitVec 6) (d : Dest) (f : FileAddr) :
    (op ++ d.bit ++ f)[7] = decide (d = .f) :=
  getLsbD_seven_formatB op d f

@[simp] theorem destField_formatB (op : BitVec 6) (d : Dest) (f : FileAddr) :
    destField (op ++ d.bit ++ f) = d := by
  rw [destField, getLsbD_seven_formatB]
  cases d <;> rfl

@[simp] theorem fileField_formatB (op : BitVec 6) (d : Dest) (f : FileAddr) :
    fileField (op ++ d.bit ++ f) = f :=
  BitVec.extractLsb'_append_eq_right

/-! A word of format T is an opcode, `b` and `f` (rule R92). -/

@[simp] theorem group_formatT (op : BitVec 4) (b : BitIndex) (f : FileAddr) :
    (op ++ b ++ f).extractLsb' 12 2 = op.extractLsb' 2 2 := by
  rw [BitVec.extractLsb'_append_eq_of_le (by decide),
    BitVec.extractLsb'_append_eq_of_le (by decide)]

@[simp] theorem bitOp_formatT (op : BitVec 4) (b : BitIndex) (f : FileAddr) :
    (op ++ b ++ f).extractLsb' 10 2 = op.extractLsb' 0 2 := by
  rw [BitVec.extractLsb'_append_eq_of_le (by decide),
    BitVec.extractLsb'_append_eq_of_le (by decide)]

@[simp] theorem bitField_formatT (op : BitVec 4) (b : BitIndex) (f : FileAddr) :
    bitField (op ++ b ++ f) = b := by
  rw [bitField, BitVec.extractLsb'_append_eq_of_le (by decide)]
  exact BitVec.extractLsb'_append_eq_right

@[simp] theorem fileField_formatT (op : BitVec 4) (b : BitIndex) (f : FileAddr) :
    fileField (op ++ b ++ f) = f :=
  BitVec.extractLsb'_append_eq_right

/-! A word of format J is an opcode and a target (rule R94). -/

@[simp] theorem group_formatJ (op : BitVec 3) (k : BitVec 11) :
    (op ++ k).extractLsb' 12 2 = op.extractLsb' 1 2 :=
  BitVec.extractLsb'_append_eq_of_le (by decide)

@[simp] theorem bitEleven_formatJ (op : BitVec 3) (k : BitVec 11) : (op ++ k)[11] = op[0] := by
  rw [BitVec.getElem_append]; rfl

@[simp] theorem targetField_formatJ (op : BitVec 3) (k : BitVec 11) :
    targetField (op ++ k) = k :=
  BitVec.extractLsb'_append_eq_right

/-! A word of format L is an opcode and a literal (rule R93). -/

@[simp] theorem group_formatL (op : BitVec 6) (k : Byte) :
    (op ++ k).extractLsb' 12 2 = op.extractLsb' 4 2 :=
  BitVec.extractLsb'_append_eq_of_le (by decide)

@[simp] theorem nibble_formatL (op : BitVec 6) (k : Byte) :
    (op ++ k).extractLsb' 8 4 = op.extractLsb' 0 4 :=
  BitVec.extractLsb'_append_eq_of_le (by decide)

@[simp] theorem literalField_formatL (op : BitVec 6) (k : Byte) :
    literalField (op ++ k) = k :=
  BitVec.extractLsb'_append_eq_right

/-! A word is what its opcode and its fields say. -/

theorem eq_ofNat_of_toNat {w : ProgWord} {n : Nat} (h : w.toNat = n) : w = BitVec.ofNat 14 n := by
  rw [← h, BitVec.ofNat_toNat, BitVec.setWidth_eq]

/-- Bits 13:8 are the group and the four bits below it. -/
theorem opcode_of_group_of_nibble {w : ProgWord} {g : BitVec 2} {n : Nat}
    (hg : w.extractLsb' 12 2 = g) (hn : (w.extractLsb' 8 4).toNat = n) :
    w.extractLsb' 8 6 = g ++ BitVec.ofNat 4 n := by
  rw [← hg, ← hn, BitVec.ofNat_toNat, BitVec.setWidth_eq]
  exact (BitVec.extractLsb'_append_extractLsb'_eq_extractLsb' (len₁ := 4) rfl).symm

theorem destField_bit (w : ProgWord) : (destField w).bit = w.extractLsb' 7 1 := by
  rw [destField, BitVec.getLsbD_eq_extractLsb']
  generalize w.extractLsb' 7 1 = b
  revert b; decide

theorem formatB_of_opcode {w : ProgWord} {op : BitVec 6} (h : w.extractLsb' 8 6 = op) :
    op ++ (destField w).bit ++ fileField w = w := by
  rw [← h, destField_bit, fileField,
    BitVec.extractLsb'_append_extractLsb'_eq_extractLsb' (by decide),
    BitVec.extractLsb'_append_extractLsb'_eq_extractLsb' (by decide)]
  exact BitVec.extractLsb'_eq_self

theorem formatT_of_opcode {w : ProgWord} {op : BitVec 4} (h : w.extractLsb' 10 4 = op) :
    op ++ bitField w ++ fileField w = w := by
  rw [← h, bitField, fileField,
    BitVec.extractLsb'_append_extractLsb'_eq_extractLsb' (by decide),
    BitVec.extractLsb'_append_extractLsb'_eq_extractLsb' (by decide)]
  exact BitVec.extractLsb'_eq_self

theorem formatJ_of_opcode {w : ProgWord} {op : BitVec 3} (h : w.extractLsb' 11 3 = op) :
    op ++ targetField w = w := by
  rw [← h, targetField, BitVec.extractLsb'_append_extractLsb'_eq_extractLsb' (by decide)]
  exact BitVec.extractLsb'_eq_self

theorem formatL_of_opcode {w : ProgWord} {op : BitVec 6} (h : w.extractLsb' 8 6 = op) :
    op ++ literalField w = w := by
  rw [← h, literalField, BitVec.extractLsb'_append_extractLsb'_eq_extractLsb' (by decide)]
  exact BitVec.extractLsb'_eq_self

end Sys2Proof
end

section
/-! ### Decoding what was encoded -/

namespace Sys2Proof

/-- Don't-care bits below bit 7 of a word whose bit 7 is 0 are bits of the field f. -/
theorem formatB_or_dontCare (op : BitVec 6) (f m : FileAddr) (x : ProgWord) :
    (op ++ Dest.w.bit ++ f) ||| (x &&& (0#6 ++ Dest.w.bit ++ m)) =
      op ++ Dest.w.bit ++ (f ||| (fileField x &&& m)) := by
  have hd : Dest.w.bit = 0#1 := rfl
  conv_lhs => rw [← formatB_of_opcode (w := x) rfl]
  rw [BitVec.and_append, BitVec.and_append, BitVec.or_append, BitVec.or_append, hd]
  simp

/-- Don't-care bits above the literal are bits of the opcode. -/
theorem formatL_or_dontCare (op m : BitVec 6) (k : Byte) (x : ProgWord) :
    (op ++ k) ||| (x &&& (m ++ 0#8)) = (op ||| (x.extractLsb' 8 6 &&& m)) ++ k := by
  conv_lhs => rw [← formatL_of_opcode (w := x) rfl]
  rw [BitVec.and_append, BitVec.or_append]
  simp

theorem decode_clrw (f : FileAddr) : decode (0b000001#6 ++ Dest.w.bit ++ f) = .ok .clrw := by
  simp [decode, decodeByteOriented]

theorem decode_nop : ∀ f : FileAddr,
    decode (0b000000#6 ++ Dest.w.bit ++ (0#7 ||| (f &&& 0b1100000#7))) = .ok .nop := by
  decide

theorem decode_encode_tris : ∀ f : BitVec 3, trisOperandOk f = true →
    decode (encode (.tris f)) = .ok (.tris f) := by
  decide

/-- What one don't-care bit of an opcode can be. -/
theorem and_one_cases (y : BitVec 6) : y &&& 0b000001#6 = 0#6 ∨ y &&& 0b000001#6 = 1#6 := by
  revert y; decide

/-- What two don't-care bits of an opcode can be. -/
theorem and_three_cases (y : BitVec 6) :
    y &&& 0b000011#6 = 0#6 ∨ y &&& 0b000011#6 = 1#6 ∨ y &&& 0b000011#6 = 2#6 ∨
      y &&& 0b000011#6 = 3#6 := by
  revert y; decide

/-- The words of an instruction, its don't-care bits at any value, decode to it (rule R98). By the
format of the word, whose fields the decoder reads one by one. -/
theorem decode_encode_or_dontCare {i : Instr} (h : i.wf = true) (x : ProgWord) :
    decode (encode i ||| (x &&& dontCare i)) = .ok i := by
  cases i with
  | addwf d f | andwf d f | comf d f | decf d f | decfsz d f | incf d f | incfsz d f | iorwf d f
  | movf d f | rlf d f | rrf d f | subwf d f | swapf d f | xorwf d f =>
    simp [encode, dontCare, decode, decodeByteOriented]
  | bcf b f | bsf b f | btfsc b f | btfss b f =>
    simp [encode, dontCare, decode, decodeBitOriented]
  | call k | goto k => simp [encode, dontCare, decode, decodeJump]
  | andlw k | iorlw k | xorlw k => simp [encode, dontCare, decode, decodeLiteral]
  | addlw k | sublw k =>
    refine (congrArg decode (formatL_or_dontCare _ 0b000001#6 k x)).trans ?_
    obtain hy | hy := and_one_cases (x.extractLsb' 8 6) <;>
      simp [hy, decode, decodeLiteral]
  | movlw k | retlw k =>
    refine (congrArg decode (formatL_or_dontCare _ 0b000011#6 k x)).trans ?_
    obtain hy | hy | hy | hy := and_three_cases (x.extractLsb' 8 6) <;>
      simp [hy, decode, decodeLiteral]
  | clrf f =>
    have hw : encode (.clrf f) = 0b000001#6 ++ Dest.f.bit ++ f := rfl
    simp [hw, dontCare, decode, decodeByteOriented]
  | movwf f =>
    have hw : encode (.movwf f) = 0b000000#6 ++ Dest.f.bit ++ f := rfl
    simp [hw, dontCare, decode, decodeByteOriented]
  | clrw =>
    exact (congrArg decode (formatB_or_dontCare 0b000001#6 0#7 0b1111111#7 x)).trans (decode_clrw _)
  | nop =>
    exact (congrArg decode (formatB_or_dontCare 0b000000#6 0#7 0b1100000#7 x)).trans (decode_nop _)
  | tris f => simpa [dontCare] using decode_encode_tris f h
  | clrwdt | option | ret | retfie | sleep => simp [dontCare]; rfl

end Sys2Proof
end

section
/-! ### Encoding what was decoded -/

namespace Sys2Proof

/-- `w` is a word of the instruction: the encoder's but for the don't-care bits (rules R97, R98). -/
def Instr.HasWord (i : Instr) (w : ProgWord) : Prop :=
  i.wf = true ∧ encode i = w &&& ~~~dontCare i

/-- An instruction without don't-care bits has one word. -/
theorem Instr.HasWord.of_encode_eq {i : Instr} {w : ProgWord} (hwf : i.wf = true)
    (hcare : dontCare i = 0#14) (he : encode i = w) : i.HasWord w :=
  ⟨hwf, by rw [hcare, he]; exact BitVec.and_allOnes.symm⟩

/-- The words of a literal instruction whose opcode is `base` once the bits `m` are cleared. -/
theorem formatL_and_not_dontCare {w : ProgWord} {op base : BitVec 6} (m : BitVec 6)
    (hop : w.extractLsb' 8 6 = op) (hbase : op &&& ~~~m = base) :
    base ++ literalField w = w &&& ~~~(m ++ 0#8) := by
  conv_rhs => rw [← formatL_of_opcode hop]
  rw [BitVec.not_append, BitVec.and_append, hbase]
  exact congrArg (base ++ ·) BitVec.and_allOnes.symm

/-- A CLRW without its don't-care bits. -/
theorem clrw_and_not_dontCare (f : FileAddr) :
    (0b000001#6 ++ Dest.w.bit ++ f) &&& ~~~dontCare .clrw = encode .clrw := by
  revert f; decide

/-- The decoder looks at the group first (rule R99). -/
theorem decode_cases (w : ProgWord) :
    (w.extractLsb' 12 2 = 0#2 ∧ decode w = decodeByteOriented w) ∨
      (w.extractLsb' 12 2 = 1#2 ∧ decode w = .ok (decodeBitOriented w)) ∨
      (w.extractLsb' 12 2 = 2#2 ∧ decode w = .ok (decodeJump w)) ∨
      (w.extractLsb' 12 2 = 3#2 ∧ decode w = decodeLiteral w) := by
  have hgroup : ∀ g : BitVec 2, g = 0#2 ∨ g = 1#2 ∨ g = 2#2 ∨ g = 3#2 := by decide
  obtain hg | hg | hg | hg := hgroup (w.extractLsb' 12 2) <;> simp [decode, hg]

/-- Rule R101: each of the twelve words, by its number. -/
theorem hasWord_of_decodeControl {w : ProgWord} {i : Instr} (h : decodeControl w = .ok i) :
    i.HasWord w := by
  unfold decodeControl at h
  split at h
  case h_13 => cases h
  all_goals
    next hw => obtain rfl := eq_ofNat_of_toNat hw; cases h; exact ⟨rfl, rfl⟩

/-- Rule R100: the nibble below the group gives the opcode, bit 7 and bits 6:0 the rest. (`split`
gives a default case as implications to `False`, which `omega` does not read.) -/
theorem hasWord_of_decodeByteOriented {w : ProgWord} {i : Instr}
    (hg : w.extractLsb' 12 2 = 0#2) (h : decodeByteOriented w = .ok i) : i.HasWord w := by
  have hop {n : Nat} (hn : (w.extractLsb' 8 4).toNat = n) := opcode_of_group_of_nibble hg hn
  unfold decodeByteOriented at h
  split at h
  case h_1 hn =>
    split at h
    case isTrue hbit =>
      have hw := formatB_of_opcode (op := 0b000000#6) (hop hn)
      rw [show destField w = .f from if_pos hbit] at hw
      cases h; exact .of_encode_eq rfl rfl hw
    case isFalse => exact hasWord_of_decodeControl h
  case h_2 hn =>
    have hw := formatB_of_opcode (op := 0b000001#6) (hop hn)
    split at h
    case isTrue hbit =>
      rw [show destField w = .f from if_pos hbit] at hw
      cases h; exact .of_encode_eq rfl rfl hw
    case isFalse hbit =>
      rw [show destField w = .w from if_neg hbit] at hw
      cases h; exact ⟨rfl, by rw [← hw]; exact (clrw_and_not_dontCare _).symm⟩
  case h_16 =>
    have hn : (w.extractLsb' 8 4).toNat = 15 := by
      have := (w.extractLsb' 8 4).isLt
      simp only [imp_false] at *
      omega
    cases h; exact .of_encode_eq rfl rfl (formatB_of_opcode (hop hn))
  all_goals
    next hn => cases h; exact .of_encode_eq rfl rfl (formatB_of_opcode (hop hn))

/-- Rule R102. -/
theorem hasWord_decodeBitOriented {w : ProgWord} (hg : w.extractLsb' 12 2 = 1#2) :
    (decodeBitOriented w).HasWord w := by
  have hop {n : Nat} (hn : (w.extractLsb' 10 2).toNat = n) :
      w.extractLsb' 10 4 = 1#2 ++ BitVec.ofNat 2 n := by
    rw [← hg, ← hn, BitVec.ofNat_toNat, BitVec.setWidth_eq]
    exact (BitVec.extractLsb'_append_extractLsb'_eq_extractLsb' (len₁ := 2) rfl).symm
  unfold decodeBitOriented
  split
  case h_4 =>
    have hn : (w.extractLsb' 10 2).toNat = 3 := by
      have := (w.extractLsb' 10 2).isLt
      simp only [imp_false] at *
      omega
    exact .of_encode_eq rfl rfl (formatT_of_opcode (hop hn))
  all_goals
    next hn => exact .of_encode_eq rfl rfl (formatT_of_opcode (hop hn))

/-- Rule R103. -/
theorem hasWord_decodeJump {w : ProgWord} (hg : w.extractLsb' 12 2 = 2#2) :
    (decodeJump w).HasWord w := by
  have hop {b : BitVec 1} (hb : w.extractLsb' 11 1 = b) : w.extractLsb' 11 3 = 2#2 ++ b := by
    rw [← hg, ← hb]
    exact (BitVec.extractLsb'_append_extractLsb'_eq_extractLsb' (len₁ := 1) rfl).symm
  unfold decodeJump
  rw [BitVec.getLsbD_eq_extractLsb']
  split
  case isTrue hb =>
    exact .of_encode_eq rfl rfl (formatJ_of_opcode (hop (eq_of_beq hb)))
  case isFalse hb =>
    have hzero : w.extractLsb' 11 1 = 0#1 :=
      (BitVec.eq_zero_or_eq_one _).resolve_right fun hone => hb (beq_iff_eq.2 hone)
    exact .of_encode_eq rfl rfl (formatJ_of_opcode (hop hzero))

/-- Rule R104: the opcodes of one instruction are alike once its don't-care bits are cleared. -/
theorem hasWord_of_decodeLiteral {w : ProgWord} {i : Instr}
    (hg : w.extractLsb' 12 2 = 3#2) (h : decodeLiteral w = .ok i) : i.HasWord w := by
  have hop {n : Nat} (hn : (w.extractLsb' 8 4).toNat = n) := opcode_of_group_of_nibble hg hn
  unfold decodeLiteral at h
  split at h
  case h_12 => cases h
  case h_1 hn | h_2 hn | h_3 hn | h_4 hn | h_5 hn | h_6 hn | h_7 hn | h_8 hn =>
    cases h; exact ⟨rfl, formatL_and_not_dontCare 0b000011#6 (hop hn) rfl⟩
  case h_9 hn | h_10 hn | h_11 hn =>
    cases h; exact .of_encode_eq rfl rfl (formatL_of_opcode (hop hn))
  case h_13 hn | h_14 hn =>
    cases h; exact ⟨rfl, formatL_and_not_dontCare 0b000001#6 (hop hn) rfl⟩
  case h_15 =>
    have hn : (w.extractLsb' 8 4).toNat = 14 ∨ (w.extractLsb' 8 4).toNat = 15 := by
      have := (w.extractLsb' 8 4).isLt
      simp only [imp_false] at *
      omega
    obtain hn | hn := hn <;> cases h <;>
      exact ⟨rfl, formatL_and_not_dontCare 0b000001#6 (hop hn) rfl⟩

/-- What the decoder reads from a word has that word (rule R108). -/
theorem hasWord_of_decode {w : ProgWord} {i : Instr} (h : decode w = .ok i) : i.HasWord w := by
  obtain ⟨hg, hd⟩ | ⟨hg, hd⟩ | ⟨hg, hd⟩ | ⟨hg, hd⟩ := decode_cases w <;> rw [hd] at h
  · exact hasWord_of_decodeByteOriented hg h
  · cases h; exact hasWord_decodeBitOriented hg
  · cases h; exact hasWord_decodeJump hg
  · exact hasWord_of_decodeLiteral hg h

/-- The encoder writes the don't-care bits 0 (rule R98). -/
theorem encode_and_dontCare (i : Instr) : encode i &&& dontCare i = 0#14 := by
  have hopcode {op m : BitVec 6} (k : Byte) (h : op &&& m = 0#6) :
      (op ++ k) &&& (m ++ 0#8) = 0#14 := by
    rw [BitVec.and_append, h, BitVec.and_zero]; rfl
  cases i with
  | clrw | nop => rfl
  | addlw k | sublw k => exact hopcode (m := 0b000001#6) k rfl
  | movlw k | retlw k => exact hopcode (m := 0b000011#6) k rfl
  | _ => exact BitVec.and_zero

/-- Settles O1: one of the words of `decode_encode_or_dontCare`. -/
theorem decodeOfEncodeIsTheInstruction : Obligations.DecodeOfEncodeIsTheInstruction := by
  intro i h
  simpa using decode_encode_or_dontCare h 0#14

/-- Settles O2: `dontCare` is the table of rule R98, and every word it allows decodes to its
instruction. -/
theorem dontCareBitsSelectTheSameInstruction :
    Obligations.DontCareBitsSelectTheSameInstruction := by
  refine ⟨rfl, rfl, fun _ => ⟨rfl, rfl, rfl, rfl⟩, fun i hclrw hnop hliteral => ?_,
    fun i _ => encode_and_dontCare i, fun _ x h => decode_encode_or_dontCare h x⟩
  cases i with
  | clrw => exact absurd rfl hclrw
  | nop => exact absurd rfl hnop
  | addlw k | sublw k | movlw k | retlw k => simpa using hliteral k
  | _ => rfl

/-- Settles O3: a word that decodes is a word of the instruction read. -/
theorem encodeOfDecodeIsTheWordWithoutDontCares :
    Obligations.EncodeOfDecodeIsTheWordWithoutDontCares :=
  fun _ _ h => hasWord_of_decode h

/-- Settles O5: the decoder is run on each of the five words. -/
theorem wordsOfTheSpecDecode : Obligations.WordsOfTheSpecDecode :=
  ⟨rfl, rfl, rfl, rfl, rfl⟩

end Sys2Proof
end

section
/-! ### The words that are no instruction -/

namespace Sys2Proof

/-- The numbers in the ranges of rule R105's table. -/
def IsUnassigned (n : Nat) : Prop :=
  (0x0001 ≤ n ∧ n ≤ 0x0007) ∨ (0x000A ≤ n ∧ n ≤ 0x001F) ∨ (0x0021 ≤ n ∧ n ≤ 0x003F) ∨
    (0x0041 ≤ n ∧ n ≤ 0x005F) ∨ n = 0x0061 ∨ (0x0068 ≤ n ∧ n ≤ 0x007F) ∨
    (0x3B00 ≤ n ∧ n ≤ 0x3BFF)

/-- The answer `r` for the word `w` is a refusal by name if the word is unassigned, and an
instruction if it is not (rule R106). -/
def RefusesUnassigned (w : ProgWord) (r : Except DecodeRefusal Instr) : Prop :=
  (IsUnassigned w.toNat → r = .error (.unassignedEncoding w)) ∧
    (¬ IsUnassigned w.toNat → ∃ i, r = .ok i)

theorem RefusesUnassigned.ok {w : ProgWord} (h : ¬ IsUnassigned w.toNat) (i : Instr) :
    RefusesUnassigned w (.ok i) :=
  ⟨fun hu => absurd hu h, fun _ => ⟨i, rfl⟩⟩

theorem RefusesUnassigned.error {w : ProgWord} (h : IsUnassigned w.toNat) :
    RefusesUnassigned w (.error (.unassignedEncoding w)) :=
  ⟨fun _ => rfl, fun hn => absurd h hn⟩

theorem toNat_group (w : ProgWord) : (w.extractLsb' 12 2).toNat = w.toNat / 4096 := by
  have := w.isLt
  rw [BitVec.extractLsb'_toNat, Nat.shiftRight_eq_div_pow]
  omega

theorem toNat_nibble (w : ProgWord) : (w.extractLsb' 8 4).toNat = w.toNat / 256 % 16 := by
  rw [BitVec.extractLsb'_toNat, Nat.shiftRight_eq_div_pow]

theorem getLsbD_seven (w : ProgWord) : w.getLsbD 7 = decide (w.toNat / 128 % 2 = 1) :=
  Nat.testBit_eq_decide_div_mod_eq

/-- The control subgroup assigns twelve of its words (rule R101). -/
theorem decodeControl_refuses {w : ProgWord} (hw : w.toNat < 128) :
    RefusesUnassigned w (decodeControl w) := by
  unfold decodeControl
  split
  case h_13 =>
    simp only [imp_false] at *
    exact .error (by unfold IsUnassigned; omega)
  all_goals exact .ok (by unfold IsUnassigned; omega) _

/-- In group 00 only the control subgroup has words without an instruction (rule R100). -/
theorem decodeByteOriented_refuses {w : ProgWord} (hw : w.toNat / 4096 = 0) :
    RefusesUnassigned w (decodeByteOriented w) := by
  unfold decodeByteOriented
  simp only [toNat_nibble, getLsbD_seven, decide_eq_true_eq]
  split
  case h_1 =>
    split
    · exact .ok (by unfold IsUnassigned; omega) _
    · exact decodeControl_refuses (by omega)
  case h_2 => split <;> exact .ok (by unfold IsUnassigned; omega) _
  case h_16 =>
    simp only [imp_false] at *
    exact .ok (by unfold IsUnassigned; omega) _
  all_goals exact .ok (by unfold IsUnassigned; omega) _

/-- In group 11 one opcode is unassigned (rule R104). -/
theorem decodeLiteral_refuses {w : ProgWord} (hw : w.toNat / 4096 = 3) :
    RefusesUnassigned w (decodeLiteral w) := by
  unfold decodeLiteral
  simp only [toNat_nibble]
  split
  case h_12 => exact .error (by unfold IsUnassigned; omega)
  case h_15 =>
    simp only [imp_false] at *
    exact .ok (by unfold IsUnassigned; omega) _
  all_goals exact .ok (by unfold IsUnassigned; omega) _

/-- Groups 01 and 10 are assigned throughout (rules R102, R103). -/
theorem decode_refuses (w : ProgWord) : RefusesUnassigned w (decode w) := by
  have hnat {g : BitVec 2} (hg : w.extractLsb' 12 2 = g) : w.toNat / 4096 = g.toNat := by
    rw [← toNat_group, hg]
  obtain ⟨hg, hd⟩ | ⟨hg, hd⟩ | ⟨hg, hd⟩ | ⟨hg, hd⟩ := decode_cases w <;> rw [hd]
  · exact decodeByteOriented_refuses (hnat hg)
  · have hw : w.toNat / 4096 = 1 := hnat hg
    exact .ok (by unfold IsUnassigned; omega) _
  · have hw : w.toNat / 4096 = 2 := hnat hg
    exact .ok (by unfold IsUnassigned; omega) _
  · exact decodeLiteral_refuses (hnat hg)

/-- Settles O4, group by group (`decode_refuses`). -/
theorem unassignedWordsAreRefusedByName : Obligations.UnassignedWordsAreRefusedByName :=
  decode_refuses

end Sys2Proof
end

section
/-! ### What a step does after the devices have acted -/

namespace Sys2Proof.Machine

theorem State.wakes_iff {s : State} : s.wakes = true ↔ s.WakeFlag := by
  simp only [State.wakes, State.WakeFlag, State.eeif, Bool.or_eq_true, Bool.and_eq_true, or_assoc]

theorem State.pending_iff {s : State} : s.pending = true ↔ s.PendingFlag := by
  simp only [State.pending, State.PendingFlag, State.WakeFlag, State.eeif, Bool.or_eq_true,
    Bool.and_eq_true]
  tauto

/-- The devices leave alone the time of the last clear and the cycles, so the least time of a
time-out can be read off either state. -/
theorem State.wdtExpires_boundary_iff {s : State} :
    s.boundary.wdtExpires s.boundaryInput = true ↔ s.TimesOut := by
  simp [State.wdtExpires, State.TimesOut, State.WdtMayTimeOut, State.boundary, State.elapsed,
    and_assoc]

@[simp] theorem State.boundary_sleeping (s : State) : s.boundary.sleeping = s.sleeping := by
  simp [State.boundary]

theorem State.wakeUp_of_awake {s : State} (h : s.sleeping = false) : s.wakeUp = s := by
  cases s; cases h; rfl

/-- A step runs an instruction, takes an interrupt, or answers a next state without either. -/
theorem step_runs_or_interrupts (s : State) :
    (s.RunsInstruction ∧ ¬ s.TakesInterrupt ∧ step s = s.boundary.wakeUp.runInstruction) ∨
      (s.TakesInterrupt ∧ ¬ s.RunsInstruction ∧ step s = s.boundary.interruptEntry) ∨
      (¬ s.RunsInstruction ∧ ¬ s.TakesInterrupt ∧ ∃ t, step s = .next t) := by
  have hdisturbed (h : ¬ s.Undisturbed) : ¬ s.RunsInstruction ∧ ¬ s.TakesInterrupt :=
    ⟨fun hr => h hr.1, fun ht => h ht.1⟩
  obtain ⟨k, hreset, hstep⟩ | ⟨hreset, hstep⟩ := step_cases s
  · obtain ⟨hr, ht⟩ := hdisturbed fun hu => Option.some_ne_none k (hreset.symm.trans hu.1)
    exact .inr (.inr ⟨hr, ht, _, hstep⟩)
  change step s = s.boundary.act (s.boundary.action s.boundaryInput) at hstep
  obtain ⟨ha, hexpires⟩ | ⟨hexpires, hrest⟩ := s.boundary.action_cases s.boundaryInput
  · obtain ⟨hr, ht⟩ := hdisturbed fun hu => hu.2 (State.wdtExpires_boundary_iff.1 hexpires)
    exact .inr (.inr ⟨hr, ht, _, by rw [hstep, ha]; rfl⟩)
  have hu : s.Undisturbed := ⟨hreset, fun h => by
    rw [State.wdtExpires_boundary_iff.2 h] at hexpires; cases hexpires⟩
  rw [State.boundary_sleeping] at hrest
  obtain ⟨ha, hsleep, hw⟩ | ⟨ha, hsleep, hw⟩ | ⟨ha, hawake, hgie, hp⟩ | ⟨ha, hawake, hp⟩ :=
    hrest <;> rw [ha] at hstep
  · have hw := State.wakes_iff.1 hw
    exact .inl ⟨⟨hu, .inl ⟨hsleep, hw⟩⟩, by simp [State.TakesInterrupt, hsleep], hstep⟩
  · have hw : ¬ s.boundary.WakeFlag := fun h => by simp [State.wakes_iff.2 h] at hw
    exact .inr (.inr ⟨by simp [State.RunsInstruction, hsleep, hw],
      by simp [State.TakesInterrupt, hsleep], _, hstep⟩)
  · have hp := State.pending_iff.1 hp
    exact .inr (.inl ⟨⟨hu, hawake, hgie, hp⟩,
      by simp [State.RunsInstruction, hawake, hgie, hp], hstep⟩)
  · have hp : ¬ (s.boundary.intcon.gie = true ∧ s.boundary.PendingFlag) := by
      rw [← State.pending_iff, ← Bool.and_eq_true, hp]; exact Bool.false_ne_true
    refine .inl ⟨⟨hu, .inr ⟨hawake, hp⟩⟩, fun ⟨_, _, h⟩ => hp h, ?_⟩
    rw [hstep, State.wakeUp_of_awake (by simpa using hawake)]; rfl

/-! What decides where a step is refused is the same once the devices have acted. -/

@[simp] theorem State.boundary_pc (s : State) : s.boundary.pc = s.pc := by simp [State.boundary]

@[simp] theorem State.boundary_nextWord (s : State) : s.boundary.nextWord = s.nextWord := by
  simp [State.boundary, State.nextWord]

@[simp] theorem State.boundary_fileReg (s : State) (a : DataAddr) :
    s.boundary.fileReg a = s.fileReg a := by
  simp [State.boundary, State.fileReg]

@[simp] theorem State.boundary_resolve (s : State) (f : FileAddr) :
    s.boundary.resolve f = s.resolve f := by
  simp [State.boundary, State.resolve]

@[simp] theorem State.boundary_canPush (s : State) : s.boundary.canPush ↔ s.canPush := by
  simp [State.boundary, State.canPush]

@[simp] theorem State.boundary_canPop (s : State) : s.boundary.canPop ↔ s.canPop := by
  simp [State.boundary, State.canPop]

@[simp] theorem State.wakeUp_nextWord (s : State) : s.wakeUp.nextWord = s.nextWord := rfl

@[simp] theorem State.wakeUp_resolve (s : State) (f : FileAddr) :
    s.wakeUp.resolve f = s.resolve f := rfl

@[simp] theorem State.wakeUp_canPush (s : State) : s.wakeUp.canPush ↔ s.canPush := .rfl

@[simp] theorem State.wakeUp_canPop (s : State) : s.wakeUp.canPop ↔ s.canPop := .rfl

end Sys2Proof.Machine
end

section
/-! ### Where a step is refused -/

namespace Sys2Proof.Machine

theorem State.not_canPush_iff {s : State} :
    ¬ s.canPush ↔ s.cfg.stackPolicy = .fault ∧ s.cfg.stackDepth ≤ s.depth := by
  unfold State.canPush
  cases s.cfg.stackPolicy <;> simp

theorem State.not_canPop_iff {s : State} :
    ¬ s.canPop ↔ s.cfg.stackPolicy = .fault ∧ s.depth = 0 := by
  unfold State.canPop
  cases s.cfg.stackPolicy <;> simp

theorem State.pushAndJump_refused_iff {s : State} {v a : ProgAddr} {r : Refusal} :
    s.pushAndJump v a = .refused r ↔ r = .stackOverflow ∧ ¬ s.canPush := by
  by_cases h : s.canPush
  · simp [pushAndJump_of_canPush h, h]
  · simp [pushAndJump_of_not_canPush h, h, eq_comm]

theorem State.popAndJump_refused_iff {s : State} {r : Refusal} :
    s.popAndJump = .refused r ↔ r = .stackUnderflow ∧ ¬ s.canPop := by
  by_cases h : s.canPop
  · simp [popAndJump_of_canPop h, h]
  · simp [popAndJump_of_not_canPop h, h, eq_comm]

theorem State.interruptEntry_refused_iff {s : State} {r : Refusal} :
    s.interruptEntry = .refused r ↔ ¬ s.canPush ∧ r = .stackOverflow :=
  State.pushAndJump_refused_iff.trans and_comm

/-- The ways in which `exec i s` can be refused. -/
inductive Refuses (s : State) : Instr → Refusal → Prop where
  | tris {f : BitVec 3} (hA : f ≠ 5#3) (hB : f ≠ 6#3) : Refuses s (.tris f) (.trisNoSuchPort f)
  | decfsz {f : FileAddr} (hpcl : s.operand f = .pcl) :
      Refuses s (.decfsz .f f) .skipWithPclDestination
  | incfsz {f : FileAddr} (hpcl : s.operand f = .pcl) :
      Refuses s (.incfsz .f f) .skipWithPclDestination
  | call (k : BitVec 11) (h : ¬ s.canPush) : Refuses s (.call k) .stackOverflow
  | ret (h : ¬ s.canPop) : Refuses s .ret .stackUnderflow
  | retlw (k : Byte) (h : ¬ s.canPop) : Refuses s (.retlw k) .stackUnderflow
  | retfie (h : ¬ s.canPop) : Refuses s .retfie .stackUnderflow

/-- TRIS is refused for a register number other than those of ports A and B. -/
theorem execTris_refused_iff {f : BitVec 3} {s : State} {r : Refusal} :
    execTris f s = .refused r ↔ f ≠ 5#3 ∧ f ≠ 6#3 ∧ r = .trisNoSuchPort f := by
  unfold execTris
  split
  case h_1 hf => simp [BitVec.eq_of_toNat_eq (y := 5#3) hf]
  case h_2 hf => simp [BitVec.eq_of_toNat_eq (y := 6#3) hf]
  case h_3 hA hB =>
    have hA : f ≠ 5#3 := fun hf => hA (congrArg BitVec.toNat hf)
    have hB : f ≠ 6#3 := fun hf => hB (congrArg BitVec.toNat hf)
    simp [hA, hB, eq_comm]

theorem State.toDestSkipZero_refused_iff {s : State} {d : Dest} {x : FileReg} {v : Byte}
    {r : Refusal} :
    s.toDestSkipZero d x v = .refused r ↔ d = .f ∧ x = .pcl ∧ r = .skipWithPclDestination := by
  obtain ⟨hd, he⟩ | ⟨hd, hx, he⟩ | ⟨hd, hx, he⟩ := s.toDestSkipZero_cases d x v
  · rw [he]; simp [hd]
  · rw [he]; simp [hx]
  · rw [he]; simp [hd, hx, eq_comm]

/-- TRIS, the skips and the stack instructions have a refusal; every other instruction answers a
next state. -/
theorem exec_refused_iff {i : Instr} {s : State} {r : Refusal} :
    exec i s = .refused r ↔ Refuses s i r := by
  constructor
  · intro h
    cases i with
    | tris f => obtain ⟨hA, hB, rfl⟩ := execTris_refused_iff.1 h; exact .tris hA hB
    | decfsz d f =>
      obtain ⟨rfl, hpcl, rfl⟩ := State.toDestSkipZero_refused_iff.1 h; exact .decfsz hpcl
    | incfsz d f =>
      obtain ⟨rfl, hpcl, rfl⟩ := State.toDestSkipZero_refused_iff.1 h; exact .incfsz hpcl
    | call k => obtain ⟨rfl, hc⟩ := State.pushAndJump_refused_iff.1 h; exact .call k hc
    | ret => obtain ⟨rfl, hc⟩ := State.popAndJump_refused_iff.1 h; exact .ret hc
    | retlw k => obtain ⟨rfl, hc⟩ := State.popAndJump_refused_iff.1 h; exact .retlw k hc
    | retfie => obtain ⟨rfl, hc⟩ := State.popAndJump_refused_iff.1 h; exact .retfie hc
    | _ => cases h
  · intro h
    cases h with
    | tris hA hB => exact execTris_refused_iff.2 ⟨hA, hB, rfl⟩
    | decfsz hpcl | incfsz hpcl => exact State.toDestSkipZero_refused_iff.2 ⟨rfl, hpcl, rfl⟩
    | call k hc => exact State.pushAndJump_refused_iff.2 ⟨rfl, hc⟩
    | ret hc | retlw k hc | retfie hc => exact State.popAndJump_refused_iff.2 ⟨rfl, hc⟩

/-- Fetching and executing one instruction is refused for want of a word, of an instruction, or by
the instruction. -/
theorem State.runInstruction_refused_iff {s : State} {r : Refusal} :
    s.runInstruction = .refused r ↔
      (s.nextWord = none ∧ r = .fetchOutsideImage s.pc) ∨
        ∃ w, s.nextWord = some w ∧
          ((r = .unassignedEncoding w ∧ ∀ i, decode w ≠ .ok i) ∨
            ∃ i, decode w = .ok i ∧ Refuses s i r) := by
  obtain ⟨e, hf, hr⟩ | ⟨w, e, hf, hd, hr⟩ | ⟨w, i, hf, hd, hr⟩ := s.runInstruction_cases
  · obtain ⟨rfl, hw⟩ := fetch_error hf
    have hw : s.nextWord = none := hw
    simp [hr, hw, eq_comm]
  · have hw : s.nextWord = some w := fetch_ok hf
    simp [hr, hw, hd, eq_comm]
  · have hw : s.nextWord = some w := fetch_ok hf
    simp [hr, hw, hd, exec_refused_iff]

/-- The refusals of an instruction in the words of the spec: of the TRIS instructions that decode
only TRIS 7 has no port. -/
theorem exists_decode_refuses_iff {s : State} {w : ProgWord} {r : Refusal} :
    (∃ i, decode w = .ok i ∧ Refuses s i r) ↔
      (r = .trisNoSuchPort 7#3 ∧ decode w = .ok (.tris 7#3)) ∨
        (r = .skipWithPclDestination ∧
          ∃ f, s.operand f = .pcl ∧
            (decode w = .ok (.decfsz .f f) ∨ decode w = .ok (.incfsz .f f))) ∨
        (r = .stackOverflow ∧ ¬ s.canPush ∧ ∃ k, decode w = .ok (.call k)) ∨
        (r = .stackUnderflow ∧ ¬ s.canPop ∧
          (decode w = .ok .ret ∨ (∃ k, decode w = .ok (.retlw k)) ∨ decode w = .ok .retfie)) := by
  constructor
  · rintro ⟨i, hd, h⟩
    cases h with
    | @tris f hA hB =>
      have hport : ∀ f : BitVec 3, trisOperandOk f = true → f ≠ 5#3 → f ≠ 6#3 → f = 7#3 := by
        decide
      obtain rfl := hport f (hasWord_of_decode hd).1 hA hB
      exact .inl ⟨rfl, hd⟩
    | decfsz hpcl => exact .inr (.inl ⟨rfl, _, hpcl, .inl hd⟩)
    | incfsz hpcl => exact .inr (.inl ⟨rfl, _, hpcl, .inr hd⟩)
    | call k hc => exact .inr (.inr (.inl ⟨rfl, hc, k, hd⟩))
    | ret hc => exact .inr (.inr (.inr ⟨rfl, hc, .inl hd⟩))
    | retlw k hc => exact .inr (.inr (.inr ⟨rfl, hc, .inr (.inl ⟨k, hd⟩)⟩))
    | retfie hc => exact .inr (.inr (.inr ⟨rfl, hc, .inr (.inr hd)⟩))
  · rintro (⟨rfl, hd⟩ | ⟨rfl, f, hpcl, hd | hd⟩ | ⟨rfl, hc, k, hd⟩ |
      ⟨rfl, hc, hd | ⟨k, hd⟩ | hd⟩)
    · exact ⟨_, hd, .tris (by decide) (by decide)⟩
    · exact ⟨_, hd, .decfsz hpcl⟩
    · exact ⟨_, hd, .incfsz hpcl⟩
    · exact ⟨_, hd, .call k hc⟩
    · exact ⟨_, hd, .ret hc⟩
    · exact ⟨_, hd, .retlw k hc⟩
    · exact ⟨_, hd, .retfie hc⟩

/-- A step is refused where the instruction it runs is, or the interrupt entry it does. -/
theorem step_refused_iff {s : State} {r : Refusal} :
    step s = .refused r ↔
      (s.RunsInstruction ∧ s.boundary.wakeUp.runInstruction = .refused r) ∨
        (s.TakesInterrupt ∧ s.boundary.interruptEntry = .refused r) := by
  obtain ⟨hr, ht, he⟩ | ⟨ht, hr, he⟩ | ⟨hr, ht, t, he⟩ := step_runs_or_interrupts s <;>
    simp [he, hr, ht]

/-- Settles O60: where a step runs an instruction or enters the handler (`step_refused_iff`), and
what each of the two needs, which the devices do not change. -/
theorem stepRefusesOnlyWithoutMeaning : Obligations.StepRefusesOnlyWithoutMeaning := by
  intro s r
  rw [step_refused_iff, State.runInstruction_refused_iff, State.interruptEntry_refused_iff]
  simp only [exists_decode_refuses_iff, State.operand_eq, State.wakeUp_pc, State.wakeUp_nextWord,
    State.wakeUp_fileReg, State.wakeUp_resolve, State.wakeUp_canPush, State.wakeUp_canPop,
    State.boundary_pc, State.boundary_nextWord, State.boundary_fileReg, State.boundary_resolve,
    State.boundary_canPush, State.boundary_canPop, State.not_canPush_iff, State.not_canPop_iff,
    and_or_left, and_assoc, or_assoc]

end Sys2Proof.Machine
end

section
/-! ### The destination of a result, as the state it leaves -/

namespace Sys2Proof.Machine

theorem State.toW_eq_afterW (s : State) (v : Byte) (u : FlagUpdate) :
    s.toW v u = s.afterW v u.apply := rfl

/-- Only a write of PCL moves the PC, and no write counts cycles, so both can be read off `s`. -/
theorem State.toFile_eq_afterStore (s : State) (r : FileReg) (v : Byte) (u : FlagUpdate) :
    s.toFile r v u = s.afterStore r v u.affects u.apply := by
  by_cases h : r = .pcl
  · subst h; rfl
  · simp [State.toFile, State.setFlags, State.endWrite, State.afterStore, h,
      State.writeReg_pc v _ h]

/-- An instruction whose result goes to W, in the words of rule R120. -/
theorem exec_eq_afterW {i : Instr} {s : State} {v : Byte} {u : FlagUpdate}
    {flags : Status → Status} (hi : exec i s = .next (s.toW v u))
    (hflags : ∀ st, u.apply st = flags st) : exec i s = .next (s.afterW v flags) := by
  rw [hi, State.toW_eq_afterW, funext hflags]

/-- An instruction whose result goes to a file register, in the words of rule R120. -/
theorem exec_eq_afterStore {i : Instr} {s : State} {r : FileReg} {v : Byte} {u : FlagUpdate}
    {flags : Status → Status} (hi : exec i s = .next (s.toFile r v u))
    (hflags : ∀ st, u.apply st = flags st) :
    exec i s = .next (s.afterStore r v u.affects flags) := by
  rw [hi, State.toFile_eq_afterStore, funext hflags]

/-- An instruction with a destination designator, for both destinations (rule R120). -/
theorem exec_eq_afterW_and_afterStore {i : Dest → Instr} {s : State} {r : FileReg} {v : Byte}
    {u : FlagUpdate} {flags : Status → Status}
    (hi : ∀ d, exec (i d) s = .next (s.toDest d r v u)) (hflags : ∀ st, u.apply st = flags st) :
    exec (i .w) s = .next (s.afterW v flags) ∧
      exec (i .f) s = .next (s.afterStore r v u.affects flags) :=
  ⟨exec_eq_afterW (hi .w) hflags, exec_eq_afterStore (hi .f) hflags⟩

/-- The end of an instruction run in `s` that has written `t` and skips on a zero result `r` (rules
R129, R131): two on and two cycles if it skips, otherwise one. -/
def State.afterSkip (s t : State) (r : Byte) : State :=
  if r = 0#8 then { t with pc := s.pc + 2#13, cycles := s.cycles + 2 }
  else { t with pc := s.pc + 1#13, cycles := s.cycles + 1 }

/-- A state still at the instruction's address and cycle count ends as `afterSkip` says. -/
theorem State.skipIf_isZero_eq_afterSkip {s t : State} (r : Byte) (hpc : t.pc = s.pc)
    (hcycles : t.cycles = s.cycles) : t.skipIf (isZero r) = s.afterSkip t r := by
  unfold State.afterSkip
  rw [← hpc, ← hcycles]
  by_cases h : r = 0#8 <;> simp [State.skipIf, isZero, h]

/-- DECFSZ and INCFSZ (rules R129, R131): the three ways in which `toDestSkipZero` ends. -/
theorem exec_eq_afterSkip_or_refused {i : Dest → Instr} {s : State} {x : FileReg} {r : Byte}
    (hi : ∀ d, exec (i d) s = s.toDestSkipZero d x r) :
    exec (i .w) s = .next (s.afterSkip { s with w := r } r) ∧
      (x ≠ .pcl → exec (i .f) s = .next (s.afterSkip (s.writeReg x r false) r)) ∧
      (x = .pcl → exec (i .f) s = .refused .skipWithPclDestination) := by
  refine ⟨?_, fun hx => ?_, fun hx => ?_⟩
  · exact (hi .w).trans (congrArg _ (State.skipIf_isZero_eq_afterSkip r rfl rfl))
  · obtain ⟨hd, -⟩ | ⟨-, -, he⟩ | ⟨-, hpcl, -⟩ := s.toDestSkipZero_cases .f x r
    · cases hd
    · rw [hi, he, State.skipIf_isZero_eq_afterSkip r (State.writeReg_pc r false hx)
        (State.writeReg_cycles s x r false)]
    · exact absurd hpcl hx
  · rw [hi, hx]; rfl

end Sys2Proof.Machine
end

section
/-! ### The 8-bit arithmetic, bit by bit and by its carries -/

namespace Sys2Proof.Machine

theorem isZero_eq_decide_toNat (r : Byte) : isZero r = decide (r.toNat = 0) :=
  decide_eq_decide.2 BitVec.toNat_eq

/-- The model's `s > 255` is the carry out of bit 7. -/
theorem add8_c (a b : Byte) : (add8 a b).c = BitVec.carry 8 a b false := by
  have ha := a.isLt
  have hb := b.isLt
  simp only [add8, BitVec.carry, Bool.toNat_false, decide_eq_decide]
  omega

/-- The sum of the low nibbles exceeds 15 where there is a carry out of bit 3. -/
theorem add8_dc (a b : Byte) : (add8 a b).dc = BitVec.carry 4 a b false := by
  simp only [add8, BitVec.carry, Bool.toNat_false, decide_eq_decide]
  omega

theorem add8_z (a b : Byte) : (add8 a b).z = decide (a + b = 0#8) := rfl

/-- By the 2's complement method there is a carry where there is no borrow. -/
theorem sub8_c (a b : Byte) : (sub8 a b).c = decide (b ≤ a) := by
  have hb := b.isLt
  simp only [sub8, decide_eq_decide, BitVec.le_def]
  omega

theorem sub8_dc (a b : Byte) :
    (sub8 a b).dc = decide (b.extractLsb' 0 4 ≤ a.extractLsb' 0 4) := by
  simp only [sub8, decide_eq_decide, BitVec.le_def, BitVec.extractLsb'_toNat, Nat.shiftRight_zero]
  omega

theorem sub8_z (a b : Byte) : (sub8 a b).z = decide (a = b) := by
  have hz : (sub8 a b).z = isZero (sub8 a b).value := rfl
  rw [hz, sub8_value, isZero, decide_eq_decide]
  exact sub_eq_zero

/-- The flags of an addition (rule R121, decision D9). -/
theorem aluFlags_add8_apply (a b : Byte) (st : Status) :
    (aluFlags (add8 a b)).apply st =
      { st with
        c := BitVec.carry 8 a b false
        dc := BitVec.carry 4 a b false
        z := decide (a + b = 0#8) } := by
  rw [aluFlags_apply, add8_c, add8_dc, add8_z]

/-- The flags of `a` minus `b` (rule R121, decision D9). -/
theorem aluFlags_sub8_apply (a b : Byte) (st : Status) :
    (aluFlags (sub8 a b)).apply st =
      { st with
        c := decide (b ≤ a)
        dc := decide (b.extractLsb' 0 4 ≤ a.extractLsb' 0 4)
        z := decide (a = b) } := by
  rw [aluFlags_apply, sub8_c, sub8_dc, sub8_z]

/-- Z by the number a byte stands for. -/
theorem zFlag_apply_toNat (r : Byte) (st : Status) :
    (zFlag r).apply st = { st with z := decide (r.toNat = 0) } := by
  rw [zFlag_apply, isZero_eq_decide_toNat]

/-- One less modulo 256, over the integers: 0 wraps to 255. -/
theorem toNat_sub_one_eq_emod (v : Byte) :
    ((v - 1#8).toNat : Int) = ((v.toNat : Int) - 1) % 256 := by
  have hv := v.isLt
  rw [BitVec.toNat_sub, BitVec.toNat_ofNat]
  omega

/-- The one's complement is what is missing to 255. -/
theorem twoFiftyFive_sub_eq_not (v : Byte) : 255#8 - v = ~~~v := BitVec.allOnes_sub_eq_not v

/-! The rotations and the nibble exchange, bit by bit. -/

theorem getLsbD_zero_rotateLeft (v : Byte) (cin : Bool) :
    (rotateLeft v cin).getLsbD 0 = cin := by
  rw [rotateLeft, BitVec.getLsbD_append]; simp

theorem getLsbD_succ_rotateLeft (v : Byte) (cin : Bool) {j : Nat} (hj : j < 7) :
    (rotateLeft v cin).getLsbD (j + 1) = v.getLsbD j := by
  rw [rotateLeft, BitVec.getLsbD_append]; simp [hj]

theorem getLsbD_seven_rotateRight (v : Byte) (cin : Bool) :
    (rotateRight v cin).getLsbD 7 = cin := by
  rw [rotateRight, BitVec.getLsbD_append]; simp

theorem getLsbD_rotateRight (v : Byte) (cin : Bool) {j : Nat} (hj : j < 7) :
    (rotateRight v cin).getLsbD j = v.getLsbD (j + 1) := by
  rw [rotateRight, BitVec.getLsbD_append]; simp [hj, Nat.add_comm]

theorem getLsbD_swapNibbles_high (v : Byte) {j : Nat} (hj : j < 4) :
    (swapNibbles v).getLsbD (j + 4) = v.getLsbD j := by
  rw [swapNibbles, BitVec.getLsbD_append]; simp [hj]

theorem getLsbD_swapNibbles_low (v : Byte) {j : Nat} (hj : j < 4) :
    (swapNibbles v).getLsbD j = v.getLsbD (j + 4) := by
  rw [swapNibbles, BitVec.getLsbD_append]; simp [hj, Nat.add_comm]

end Sys2Proof.Machine
end

section
/-! ### The byte-oriented instructions -/

namespace Sys2Proof.Machine

/-- Settles O32: the result and the flags are those of `add8`. -/
theorem addwfAddsWAndFile : Obligations.AddwfAddsWAndFile := fun f s =>
  exec_eq_afterW_and_afterStore (i := (.addwf · f)) (fun _ => rfl) (aluFlags_add8_apply s.w _)

/-- Settles O33: the result and the flags are those of `sub8`, with the file register first. -/
theorem subwfSubtractsWFromFile : Obligations.SubwfSubtractsWFromFile := fun f s =>
  exec_eq_afterW_and_afterStore (i := (.subwf · f)) (fun _ => by rw [← sub8_value]; rfl)
    (aluFlags_sub8_apply _ s.w)

/-- Settles O34: the result of each is the word operation, whose bits the library gives. -/
theorem logicWfIsBitwise : Obligations.LogicWfIsBitwise := by
  intro f s
  refine ⟨fun d => ⟨decodeOfEncodeIsTheInstruction (.andwf d f) rfl,
    decodeOfEncodeIsTheInstruction (.iorwf d f) rfl,
    decodeOfEncodeIsTheInstruction (.xorwf d f) rfl⟩, ?_, ?_, ?_⟩
  · exact ⟨_, fun j _ => BitVec.getLsbD_and,
      exec_eq_afterW_and_afterStore (i := (.andwf · f)) (fun _ => rfl) (zFlag_apply _)⟩
  · exact ⟨_, fun j _ => BitVec.getLsbD_or,
      exec_eq_afterW_and_afterStore (i := (.iorwf · f)) (fun _ => rfl) (zFlag_apply _)⟩
  · exact ⟨_, fun j _ => BitVec.getLsbD_xor,
      exec_eq_afterW_and_afterStore (i := (.xorwf · f)) (fun _ => rfl) (zFlag_apply _)⟩

/-- Settles O36: both results over the numbers they stand for, and Z from that number. -/
theorem decfAndIncfWriteZAlone : Obligations.DecfAndIncfWriteZAlone := by
  intro f s
  refine ⟨fun d => ⟨decodeOfEncodeIsTheInstruction (.decf d f) rfl,
    decodeOfEncodeIsTheInstruction (.incf d f) rfl⟩, ?_, ?_⟩
  · exact ⟨_, toNat_sub_one_eq_emod _,
      exec_eq_afterW_and_afterStore (i := (.decf · f)) (fun _ => rfl) (zFlag_apply_toNat _)⟩
  · exact ⟨_, BitVec.toNat_add _ 1#8,
      exec_eq_afterW_and_afterStore (i := (.incf · f)) (fun _ => rfl) (zFlag_apply_toNat _)⟩

/-- Settles O37: the three ways of `exec_eq_afterSkip_or_refused`, once for each instruction. -/
theorem decfszAndIncfszSkipOnZero : Obligations.DecfszAndIncfszSkipOnZero := by
  intro f s
  refine ⟨fun d => ⟨decodeOfEncodeIsTheInstruction (.decfsz d f) rfl,
    decodeOfEncodeIsTheInstruction (.incfsz d f) rfl⟩, ?_, ?_⟩
  · exact ⟨_, toNat_sub_one_eq_emod _,
      exec_eq_afterSkip_or_refused (i := (.decfsz · f)) fun _ => rfl⟩
  · exact ⟨_, BitVec.toNat_add _ 1#8,
      exec_eq_afterSkip_or_refused (i := (.incfsz · f)) fun _ => rfl⟩

/-- Settles O38: the bits of the two rotations, then C alone. -/
theorem rotatesGoThroughCarry : Obligations.RotatesGoThroughCarry := by
  intro f s
  refine ⟨fun d => ⟨decodeOfEncodeIsTheInstruction (.rlf d f) rfl,
    decodeOfEncodeIsTheInstruction (.rrf d f) rfl⟩, ?_, ?_⟩
  · exact ⟨_, getLsbD_zero_rotateLeft _ _, fun _ => getLsbD_succ_rotateLeft _ _,
      exec_eq_afterW_and_afterStore (i := (.rlf · f)) (fun _ => rfl) (cFlag_apply _)⟩
  · exact ⟨_, getLsbD_seven_rotateRight _ _, fun _ => getLsbD_rotateRight _ _,
      exec_eq_afterW_and_afterStore (i := (.rrf · f)) (fun _ => rfl) (cFlag_apply _)⟩

/-- Settles O39: the bits of `swapNibbles`, then no status bit. -/
theorem swapfExchangesNibbles : Obligations.SwapfExchangesNibbles := fun f _ =>
  ⟨fun d => decodeOfEncodeIsTheInstruction (.swapf d f) rfl, _,
    fun _ hj => ⟨getLsbD_swapNibbles_high _ hj, getLsbD_swapNibbles_low _ hj⟩,
    exec_eq_afterW_and_afterStore (i := (.swapf · f)) (fun _ => rfl) noFlags_apply⟩

/-- Settles O44: `add8` and `sub8` once more, with the literal for the file register. -/
theorem addlwAddsAndSublwSubtracts : Obligations.AddlwAddsAndSublwSubtracts := fun k s =>
  ⟨exec_eq_afterW rfl (aluFlags_add8_apply s.w k),
    exec_eq_afterW (by rw [← sub8_value]; rfl) (aluFlags_sub8_apply k s.w)⟩

/-- Settles O35: 255 minus f is the complement of rule R127 (`twoFiftyFive_sub_eq_not`). -/
theorem comfComplementsAndMovfMoves : Obligations.ComfComplementsAndMovfMoves := by
  intro f s
  have hcomf (d : Dest) : exec (.comf d f) s =
      .next (s.toDest d (s.operand f) (255#8 - s.readReg (s.operand f))
        (zFlag (255#8 - s.readReg (s.operand f)))) := by
    rw [twoFiftyFive_sub_eq_not]; rfl
  obtain ⟨hcomfW, hcomfF⟩ :=
    exec_eq_afterW_and_afterStore (i := (.comf · f)) hcomf (zFlag_apply_toNat _)
  exact ⟨fun d => ⟨decodeOfEncodeIsTheInstruction (.comf d f) rfl,
    decodeOfEncodeIsTheInstruction (.movf d f) rfl⟩, hcomfW, hcomfF,
    exec_eq_afterW_and_afterStore (i := (.movf · f)) (fun _ => rfl) (zFlag_apply_toNat _)⟩

/-- Settles O40: a store each, of 0 with Z and of W without a status bit. -/
theorem clrfClearsAndMovwfStoresW : Obligations.ClrfClearsAndMovwfStoresW := fun f _ =>
  ⟨decodeOfEncodeIsTheInstruction (.clrf f) rfl, decodeOfEncodeIsTheInstruction (.movwf f) rfl,
    exec_eq_afterStore rfl (zFlag_apply 0#8), exec_eq_afterStore rfl noFlags_apply⟩

/-- Settles O41: CLRW by its fixed opcode, NOP word by word. -/
theorem clrwClearsWAndNopDoesNothing : Obligations.ClrwClearsWAndNopDoesNothing := fun _ =>
  ⟨decode_clrw, by decide, rfl, rfl⟩

end Sys2Proof.Machine
end

section
/-! ### The bit-oriented instructions -/

namespace Sys2Proof.Machine

/-- Settles O42: a store of the byte that `clearBit` and `setBit` make, and no status bit. -/
theorem bcfAndBsfChangeOneBit : Obligations.BcfAndBsfChangeOneBit := by
  intro b f s
  refine ⟨decodeOfEncodeIsTheInstruction (.bcf b f) rfl,
    decodeOfEncodeIsTheInstruction (.bsf b f) rfl, ?_, ?_⟩
  · exact ⟨_, fun _ hj => (getLsbD_clearBit _ b hj).trans (Bool.if_false_left ..).symm,
      exec_eq_afterStore rfl noFlags_apply⟩
  · exact ⟨_, fun j _ => (getLsbD_setBit _ b j).trans (Bool.if_true_left ..).symm,
      exec_eq_afterStore rfl noFlags_apply⟩

theorem State.skipIf_true (s : State) :
    s.skipIf true = { s with pc := s.pc + 2#13, cycles := s.cycles + 2 } := rfl

theorem State.skipIf_false (s : State) :
    s.skipIf false = { s with pc := s.pc + 1#13, cycles := s.cycles + 1 } := rfl

/-- BTFSC tests for a clear bit (rule R163). -/
theorem exec_btfsc_of_getLsbD {b : BitIndex} {f : FileAddr} {s : State} {v : Bool}
    (h : (s.readReg (s.operand f)).getLsbD b.toNat = v) :
    exec (.btfsc b f) s = .next (s.skipIf !v) := h ▸ rfl

/-- BTFSS tests for a set bit (rule R164). -/
theorem exec_btfss_of_getLsbD {b : BitIndex} {f : FileAddr} {s : State} {v : Bool}
    (h : (s.readReg (s.operand f)).getLsbD b.toNat = v) :
    exec (.btfss b f) s = .next (s.skipIf v) := h ▸ rfl

/-- Settles O43: the bit tested is the binary digit of the register's number, and either value of it
skips in one of the two instructions and passes in the other. -/
theorem bitTestsSkip : Obligations.BitTestsSkip := by
  intro b f s
  have hbit : (s.readReg (s.operand f)).getLsbD b.toNat =
      decide ((s.readReg (s.operand f)).toNat / 2 ^ b.toNat % 2 = 1) :=
    Nat.testBit_eq_decide_div_mod_eq
  refine ⟨decodeOfEncodeIsTheInstruction (.btfsc b f) rfl,
    decodeOfEncodeIsTheInstruction (.btfss b f) rfl, fun hset => ?_, fun hclear => ?_⟩
  · have h := hbit.trans (decide_eq_true hset)
    rw [exec_btfsc_of_getLsbD h, exec_btfss_of_getLsbD h]
    exact ⟨congrArg _ s.skipIf_false, congrArg _ s.skipIf_true⟩
  · have h := hbit.trans (decide_eq_false hclear)
    rw [exec_btfsc_of_getLsbD h, exec_btfss_of_getLsbD h]
    exact ⟨congrArg _ s.skipIf_true, congrArg _ s.skipIf_false⟩

end Sys2Proof.Machine
end

section
/-! ### The literal instructions -/

namespace Sys2Proof

/-- Bits 9:8 of a MOVLW are don't-care (rule R98): each of their four values leads to its row. -/
theorem decode_movlw (x : BitVec 2) (k : Byte) :
    decode (0b1100#4 ++ x ++ k) = .ok (.movlw k) := by
  have hx : x = 0#2 ∨ x = 1#2 ∨ x = 2#2 ∨ x = 3#2 := by revert x; decide
  obtain rfl | rfl | rfl | rfl := hx <;> simp [decode, decodeLiteral]

end Sys2Proof

namespace Sys2Proof.Machine

/-- Settles O45: the library gives the bits of the word operations; MOVLW writes no status bit. -/
theorem logicLwIsBitwiseAndMovlwLoads : Obligations.LogicLwIsBitwiseAndMovlwLoads := by
  intro k s
  refine ⟨decodeOfEncodeIsTheInstruction (.andlw k) rfl,
    decodeOfEncodeIsTheInstruction (.iorlw k) rfl, decodeOfEncodeIsTheInstruction (.xorlw k) rfl,
    fun x => decode_movlw x k, ?_, ?_, ?_, exec_eq_afterW rfl noFlags_apply⟩
  · exact ⟨_, fun j _ => BitVec.getLsbD_and, exec_eq_afterW rfl (zFlag_apply _)⟩
  · exact ⟨_, fun j _ => BitVec.getLsbD_or, exec_eq_afterW rfl (zFlag_apply _)⟩
  · exact ⟨_, fun j _ => BitVec.getLsbD_xor, exec_eq_afterW rfl (zFlag_apply _)⟩

end Sys2Proof.Machine
end

section
/-! ### The control instructions -/

namespace Sys2Proof.Machine

/-! The target of CALL and GOTO, field by field (rules R173, R175). -/

theorem State.extractLsb'_low_target (s : State) (k : BitVec 11) :
    (s.target k).extractLsb' 0 11 = k :=
  BitVec.extractLsb'_append_eq_right

theorem State.extractLsb'_high_target (s : State) (k : BitVec 11) :
    (s.target k).extractLsb' 11 2 = s.pclath.extractLsb' 3 2 :=
  BitVec.extractLsb'_append_eq_left

/-- Settles O46: `State.target` has the two fields, and a jump sets the PC and the cycles alone. -/
theorem gotoJumpsWithinTheSelectedPage : Obligations.GotoJumpsWithinTheSelectedPage := fun k s =>
  ⟨decodeOfEncodeIsTheInstruction (.goto k) rfl, s.target k, s.extractLsb'_low_target k,
    s.extractLsb'_high_target k, rfl⟩

/-- Settles O47: CALL pushes the return address and jumps to the same target as GOTO. -/
theorem callPushesAndJumps : Obligations.CallPushesAndJumps := fun k s h =>
  ⟨s.target k, s.extractLsb'_low_target k, s.extractLsb'_high_target k,
    State.pushAndJump_of_canPush h s.returnAddress (s.target k)⟩

theorem State.stackWf_iff {s : State} :
    s.stackWf = true ↔ s.stack.length = s.cfg.stackDepth ∧ s.sp < s.cfg.stackDepth := by
  simp [State.stackWf]

/-- The count after a push and a pop, under either policy. -/
theorem State.depthDown_depthUp (s : State) :
    State.depthDown { s with depth := s.depthUp } = s.depth := by
  unfold State.depthDown State.depthUp
  split <;> rfl

/-- With one entry more than `s` has there is one to pop. -/
theorem State.canPop_depthUp (s : State) : State.canPop { s with depth := s.depthUp } := by
  unfold State.canPop State.depthUp
  cases hp : s.cfg.stackPolicy with
  | wrap => exact .inl rfl
  | fault => exact .inr (Nat.succ_pos s.depth)

/-- A pop straight after a push goes to the value pushed and leaves nothing behind but the cell it
was in and the cycles (rules R25, R26). -/
theorem State.popAndJump_of_pushAndJump {s : State} (hwf : s.stackWf = true) (h : s.canPush)
    (v a : ProgAddr) : ∃ t, s.pushAndJump v a = .next t ∧
      t.popAndJump = .next
        { s with stack := s.stack.set s.sp v, pc := v, cycles := s.cycles + 4 } := by
  obtain ⟨hcells, hsp⟩ := State.stackWf_iff.1 hwf
  have htos := State.tos_push hcells hsp (State.push_of_canPush h v)
  have hdown : (s.spUp + s.cfg.stackDepth - 1) % s.cfg.stackDepth = s.sp := spDown_spUp hsp
  refine ⟨_, State.pushAndJump_of_canPush h v a, (State.popAndJump_of_canPop ?_).trans ?_⟩
  · exact s.canPop_depthUp
  · exact congr(Host.Outcome.next { s with
      stack := s.stack.set s.sp v, sp := $hdown, depth := $(s.depthDown_depthUp), pc := $htos
      cycles := s.cycles + 4 })

/-- Settles O29: CALL and RETURN are such a push and pop, with the address after the CALL. -/
theorem returnGoesBackBehindTheCall : Obligations.ReturnGoesBackBehindTheCall := by
  intro s k hwf h
  obtain ⟨t, hcall, hret⟩ :=
    State.popAndJump_of_pushAndJump hwf h s.returnAddress (s.target k)
  exact ⟨t, _, hcall, hret, rfl, rfl, rfl, rfl, rfl, rfl⟩

/-- Settles O49: CLRWDT by whether the Watchdog is enabled; the clear of SLEEP asks nothing. -/
theorem clrwdtAndSleepClearTheWatchdog : Obligations.ClrwdtAndSleepClearTheWatchdog := by
  intro s
  have hclrwdt : exec .clrwdt s = .next
      ((if s.cfg.wdtEnabled then s.advance.clearWdt else s.advance).setToPd true true) := rfl
  refine ⟨fun henabled => ?_, fun hdisabled => ?_, rfl⟩
  · rw [hclrwdt, if_pos henabled]; rfl
  · rw [hclrwdt, if_neg (Bool.eq_false_iff.1 hdisabled)]; rfl

end Sys2Proof.Machine
end

section
/-! ### The PC over all instructions -/

namespace Sys2Proof.Machine

/-- The PC goes one further in one cycle, or by a skip two further in two (rules R184, R255). -/
def State.PassesOrSkips (s : State) (i : Instr) (t : State) : Prop :=
  (t.pc = s.pc + 1#13 ∧ t.cycles = s.cycles + 1) ∨
    (skips i = true ∧ t.pc = s.pc + 2#13 ∧ t.cycles = s.cycles + 2)

/-- A skip taken or not, by an instruction still at its address and cycle count. -/
theorem State.passesOrSkips_skipIf {s m : State} {i : Instr} (b : Bool) (hs : skips i = true)
    (hpc : m.pc = s.pc) (hcycles : m.cycles = s.cycles) : s.PassesOrSkips i (m.skipIf b) := by
  unfold State.PassesOrSkips
  rw [← hpc, ← hcycles]
  cases b with
  | false => exact .inl ⟨rfl, rfl⟩
  | true => exact .inr ⟨hs, rfl, rfl⟩

/-- By the way the instruction ends: a store elsewhere than to PCL leaves the PC to the end. -/
theorem Executes.passesOrSkips {s t : State} {i : Instr} (h : Executes s i t)
    (hi : transfers i = false) (hpcl : s.storeReg i ≠ some .pcl) : s.PassesOrSkips i t := by
  cases h with
  | goto | call | ret | retlw | retfie => cases hi
  | toFile r v u hr =>
    have hne : r ≠ .pcl := fun h => hpcl (h ▸ hr)
    exact .inl (by simp [State.toFile, hne, State.writeReg_pc v _ hne])
  | skipFile r v b hr hne hs =>
    exact State.passesOrSkips_skipIf b hs (State.writeReg_pc v _ hne) (s.writeReg_cycles r v _)
  | skipW v b hw hs => exact State.passesOrSkips_skipIf b hs rfl rfl
  | test b hs => exact State.passesOrSkips_skipIf b hs rfl rfl
  | toW | nop | clrwdt | clrwdtDisabled | sleep => exact .inl ⟨rfl, rfl⟩

/-- Settles O55, by the ways in which an instruction can end (`Executes.of_exec`). -/
theorem pcAdvancesUnlessListed : Obligations.PcAdvancesUnlessListed := fun _ _ _ h hi hpcl =>
  (Executes.of_exec h).passesOrSkips hi hpcl

end Sys2Proof.Machine
end

section
/-! ### OPTION and TRIS -/

namespace Sys2Proof.Machine

/-- A store without status bits elsewhere than to PCL is the write and the end of a plain
instruction. -/
theorem State.toFile_noFlags (s : State) {r : FileReg} (v : Byte) (h : r ≠ .pcl) :
    s.toFile r v noFlags = (s.writeReg r v false).advance := by
  simp [State.toFile, State.setFlags, State.endWrite, State.advance, h]

/-! Where each instruction stores W: OPTION and TRIS by name, MOVWF through the map (rules R134,
R201, R202). -/

theorem exec_option (s : State) : exec .option s = .next (s.toFile .optionReg s.w noFlags) := rfl

theorem exec_tris_portA (s : State) :
    exec (.tris 5#3) s = .next (s.toFile .trisA s.w noFlags) := rfl

theorem exec_tris_portB (s : State) :
    exec (.tris 6#3) s = .next (s.toFile .trisB s.w noFlags) := rfl

theorem exec_movwf_of_fileReg {s : State} {f : FileAddr} {r : FileReg}
    (h : s.fileReg (s.resolve f) = r) :
    exec (.movwf f) s = .next (s.toFile r s.w noFlags) := h ▸ rfl

/-- TRISA has five bits, so a write keeps the low five (rule R66). -/
theorem State.writeReg_trisA_eq_extractLsb' (s : State) (v : Byte) (fl : Bool) :
    s.writeReg .trisA v fl = { s with trisA := v.extractLsb' 0 5 } :=
  congr({ s with trisA := $(BitVec.setWidth_eq_extractLsb' (by decide)) })

/-- Settles O50: each store is to a register other than PCL, and the refusals are
`execTris_refused_iff`. -/
theorem optionAndTrisStoreW : Obligations.OptionAndTrisStoreW := by
  intro s
  refine ⟨?option, ?trisA, ?trisB, fun f hA hB => execTris_refused_iff.2 ⟨hA, hB, rfl⟩⟩
  case option => rw [exec_option, s.toFile_noFlags _ (by decide)]; rfl
  case trisA =>
    rw [exec_tris_portA, s.toFile_noFlags _ (by decide), State.writeReg_trisA_eq_extractLsb']; rfl
  case trisB => rw [exec_tris_portB, s.toFile_noFlags _ (by decide)]; rfl

/-- Direct addressing with RP0 set reaches the upper half of the data memory (rule R63). -/
theorem State.resolve_bankOne {s : State} {f : FileAddr} (hf : f ≠ 0x00#7)
    (hbank : s.status.rp0 = true) : s.resolve f = 1#1 ++ f := by
  rw [State.resolve, if_neg hf, hbank]; rfl

theorem State.fileReg_ofDevice {s : State} (hmap : s.cfg.fileMap = .ofDevice) (a : DataAddr) :
    s.fileReg a = deviceMap s.cfg.device a := by
  unfold State.fileReg regAt
  rw [hmap]

/-- The default map in bank 1, at a file address that does not address indirectly. -/
theorem State.fileReg_resolve_bankOne {s : State} {f : FileAddr}
    (hmap : s.cfg.fileMap = .ofDevice) (hbank : s.status.rp0 = true) (hf : f ≠ 0x00#7) :
    s.fileReg (s.resolve f) = deviceMap s.cfg.device (1#1 ++ f) := by
  rw [State.resolve_bankOne hf hbank, State.fileReg_ofDevice hmap]

/-- Settles O51: both instructions store W in one register without a status bit, and the default map
has the three registers in bank 1 on every device. -/
theorem optionIsMovwfInBankOne : Obligations.OptionIsMovwfInBankOne := by
  refine fun s => ⟨fun f => ⟨?option, ?trisA, ?trisB⟩, fun hmap hbank => ?bankOne⟩
  case option => exact fun hr => (exec_option s).trans (exec_movwf_of_fileReg hr).symm
  case trisA => exact fun hr => (exec_tris_portA s).trans (exec_movwf_of_fileReg hr).symm
  case trisB => exact fun hr => (exec_tris_portB s).trans (exec_movwf_of_fileReg hr).symm
  case bankOne =>
    have hdev {f : FileAddr} := State.fileReg_resolve_bankOne (f := f) hmap hbank
    exact ⟨hdev (by decide), hdev (by decide), hdev (by decide)⟩

end Sys2Proof.Machine
end

section
/-! ### The branches of a step -/

namespace Sys2Proof.Machine

variable {s t : State}

theorem step_of_reset {r : ResetRequest} (h : s.boundaryInput.reset = some r) :
    step s = .next (s.takeInput.applyReset (s.takeInput.resetKind r)) := by
  obtain ⟨r', hr, he⟩ | ⟨hr, -⟩ := step_cases s <;> rw [h] at hr <;> cases hr
  exact he

theorem step_of_no_reset (h : s.boundaryInput.reset = none) :
    step s = s.boundary.act (s.boundary.action s.boundaryInput) := by
  obtain ⟨r, hr, -⟩ | ⟨-, he⟩ := step_cases s
  · rw [h] at hr; cases hr
  · exact he

theorem State.wdtExpires_boundary_of_not_timesOut (h : ¬ s.TimesOut) :
    s.boundary.wdtExpires s.boundaryInput = false :=
  Bool.eq_false_iff.2 fun he => h (State.wdtExpires_boundary_iff.1 he)

/-- A time-out comes before everything the devices may have brought about (rule R229 item 3). -/
theorem step_of_timesOut (hr : s.boundaryInput.reset = none) (h : s.TimesOut) :
    step s = .next s.boundary.timeOut := by
  have ha : s.boundary.action s.boundaryInput = .timeOut :=
    if_pos (State.wdtExpires_boundary_iff.2 h)
  rw [step_of_no_reset hr, ha]; rfl

/-- An undisturbed sleep goes on (rule R229 item 4a). -/
theorem step_of_stayAsleep (h : s.Undisturbed) (hsleep : s.sleeping = true)
    (hwake : ¬ s.boundary.WakeFlag) : step s = .next s.boundary := by
  have hw : s.boundary.wakes = false := Bool.eq_false_iff.2 fun he => hwake (State.wakes_iff.1 he)
  have ha : s.boundary.action s.boundaryInput = .stayAsleep := by
    simp [State.action, State.wdtExpires_boundary_of_not_timesOut h.2, hsleep, hw]
  rw [step_of_no_reset h.1, ha]; rfl

theorem step_of_takesInterrupt (h : s.TakesInterrupt) : step s = s.boundary.interruptEntry := by
  obtain ⟨-, hn, -⟩ | ⟨-, -, he⟩ | ⟨-, hn, -⟩ := step_runs_or_interrupts s
  · exact absurd h hn
  · exact he
  · exact absurd h hn

theorem step_of_runsInstruction (h : s.RunsInstruction) :
    step s = s.boundary.wakeUp.runInstruction := by
  obtain ⟨-, -, he⟩ | ⟨-, hn, -⟩ | ⟨hn, -, -⟩ := step_runs_or_interrupts s
  · exact he
  · exact absurd h hn
  · exact absurd h hn

/-- An awake core with no interrupt to take runs an instruction (rule R229 item 6). -/
theorem step_of_awake (h : s.Undisturbed) (hawake : s.sleeping = false)
    (hint : ¬ (s.boundary.intcon.gie = true ∧ s.boundary.PendingFlag)) :
    step s = s.boundary.runInstruction := by
  rw [step_of_runsInstruction ⟨h, .inr ⟨hawake, hint⟩⟩,
    State.wakeUp_of_awake (by simpa using hawake)]

/-! What fetching and executing one instruction does, by the word at the PC. -/

theorem State.fetch_of_nextWord {w : ProgWord} (h : s.nextWord = some w) : s.fetch = .ok w := by
  unfold State.nextWord at h
  rw [State.fetch, h]

theorem State.runInstruction_of_decode {w : ProgWord} {i : Instr} (hw : s.nextWord = some w)
    (hd : decode w = .ok i) : s.runInstruction = exec i s := by
  rw [State.runInstruction, State.fetch_of_nextWord hw]
  simp only [hd]

theorem State.runInstruction_of_decode_error {w : ProgWord} {r : DecodeRefusal}
    (hw : s.nextWord = some w) (hd : decode w = .error r) :
    s.runInstruction = .refused (.unassignedEncoding w) :=
  State.runInstruction_refused_iff.2 (.inr ⟨w, hw, .inl ⟨rfl, by simp [hd]⟩⟩)

theorem State.runInstruction_of_not_loaded (h : s.nextWord = none) :
    s.runInstruction = .refused (.fetchOutsideImage s.pc) :=
  State.runInstruction_refused_iff.2 (.inl ⟨h, rfl⟩)

/-- Settles O6: `step_of_awake`, by the word the fetch finds. -/
theorem stepRunsTheDecodedInstruction : Obligations.StepRunsTheDecodedInstruction := by
  intro s hu hawake hint u word
  have hstep : step s = u.runInstruction := step_of_awake hu (by simpa using hawake) hint
  simp only [hstep]
  exact ⟨fun w i hw hd => State.runInstruction_of_decode hw hd,
    fun w r hw hd => State.runInstruction_of_decode_error hw hd,
    fun hw => State.runInstruction_of_not_loaded hw⟩

/-- Settles O8: whether an MCLR reset is one during SLEEP is read off `sleeping`, which taking the
input leaves alone. -/
theorem requestedResetIsAppliedFirst : Obligations.RequestedResetIsAppliedFirst := by
  intro s r h
  rw [step_of_reset h]
  cases r <;> rfl

/-- Settles O16: the word to run is the one fetched before the devices acted. -/
theorem wakeUpRunsOneInstruction : Obligations.WakeUpRunsOneInstruction := by
  intro s w i hu hsleep hwake hw hd
  rw [step_of_runsInstruction ⟨hu, .inl ⟨hsleep, hwake⟩⟩]
  exact State.runInstruction_of_decode (by simpa using hw) hd

end Sys2Proof.Machine
end

section
/-! ### The devices -/

namespace Sys2Proof.Machine

theorem State.devices_tmr0 (s : State) (i : Input) :
    (s.devices i).tmr0 = if s.sleeping then s.tmr0 else s.tmr0 + BitVec.ofNat 8 i.timer0 := by
  unfold State.devices State.sleepFor State.advanceCounts State.advanceTimer0
  cases h : s.sleeping <;> simp [State.raiseFlags, h]

theorem State.devices_t0if (s : State) (i : Input) :
    (s.devices i).intcon.t0if = (s.intcon.t0if || i.irq.t0if ||
      (!s.sleeping && decide (256 ≤ s.tmr0.toNat + i.timer0))) := by
  unfold State.devices State.sleepFor State.advanceCounts State.advanceTimer0
  cases h : s.sleeping <;> simp [State.raiseFlags, h]

theorem State.devices_wdt (s : State) (i : Input) :
    (s.devices i).wdt = if s.cfg.wdtEnabled then s.wdt + i.wdtTicks else s.wdt := by
  unfold State.devices State.sleepFor State.advanceCounts State.advanceTimer0
  cases h : s.sleeping <;> simp [State.raiseFlags, h]

theorem State.devices_prescaler (s : State) (i : Input) :
    (s.devices i).prescaler =
      if s.prescalerRuns then s.prescaler + i.prescalerTicks else s.prescaler := by
  unfold State.devices State.sleepFor State.advanceCounts State.advanceTimer0
  cases h : s.sleeping <;> simp [State.raiseFlags, State.prescalerRuns, State.psa, h]

/-- EEIF is bit 4 of EECON1, and raising it keeps the other four (rule R212). -/
theorem eecon1_raise (e : BitVec 5) (b : Bool) :
    (if b then e ||| 0b10000#5 else e) =
      BitVec.ofBool (decide (e.getLsbD 4 = true ∨ b = true)) ++ e.extractLsb' 0 4 := by
  revert e b; decide

/-- The prescaler's clock, in the words of rules R36 and R226. -/
theorem State.prescalerRuns_iff {s : State} :
    s.prescalerRuns = true ↔
      if s.optionReg.getLsbD 3 then s.cfg.wdtEnabled = true else s.sleeping = false := by
  unfold State.prescalerRuns State.psa
  cases s.optionReg.getLsbD 3 <;> simp

/-- Settles O12: `devices_frame`, with one lemma for each field it leaves open. -/
theorem devicesRaiseFlagsAndAdvanceTimer0 : Obligations.DevicesRaiseFlagsAndAdvanceTimer0 := by
  intro s i wraps prescalerClocked
  have ht0if : (s.devices i).intcon.t0if =
      decide (s.intcon.t0if = true ∨ i.irq.t0if = true ∨ wraps) := by
    rw [State.devices_t0if]
    simp [wraps, Nat.lt_iff_add_one_le, Bool.or_assoc]
  have htmr0 : (s.devices i).tmr0 =
      if s.sleeping then s.tmr0 else BitVec.ofNat 8 (s.tmr0.toNat + i.timer0) := by
    rw [State.devices_tmr0, BitVec.ofNat_add, BitVec.ofNat_toNat, BitVec.setWidth_eq]
  have hprescaler : (s.devices i).prescaler =
      if prescalerClocked then s.prescaler + i.prescalerTicks else s.prescaler := by
    rw [State.devices_prescaler]
    exact if_congr State.prescalerRuns_iff rfl rfl
  rw [State.devices_frame, ht0if, htmr0, hprescaler, eecon1_raise, State.devices_wdt,
    State.devices_sleepTime]
  simp

/-- Of the input the action looks at the time-out alone. -/
theorem State.action_congr {s : State} {i j : Input} (h : s.wdtExpires i = s.wdtExpires j) :
    s.action i = s.action j := by
  rw [State.action, State.action, h]

/-- Two states that do not time out step alike if their inputs request the same reset and leave them
alike. -/
theorem step_congr {s t : State} (hreset : s.boundaryInput.reset = t.boundaryInput.reset)
    (htake : s.takeInput = t.takeInput) (hdevices : s.boundary = t.boundary)
    (hs : ¬ s.TimesOut) (ht : ¬ t.TimesOut) : step s = step t := by
  cases hr : t.boundaryInput.reset with
  | some r => rw [step_of_reset (hreset.trans hr), step_of_reset hr, htake]
  | none =>
    have hexp := State.wdtExpires_boundary_of_not_timesOut ht
    rw [← hdevices, ← State.wdtExpires_boundary_of_not_timesOut hs] at hexp
    rw [step_of_no_reset (hreset.trans hr), step_of_no_reset hr, ← hdevices,
      State.action_congr hexp]

/-- Settles O15: the time-out takes effect neither way, and nothing else looks at its input. -/
theorem disabledWatchdogNeverTimesOut : Obligations.DisabledWatchdogNeverTimesOut := by
  intro s i rest h
  refine step_congr rfl rfl rfl ?_ ?_
  · rintro ⟨-, henabled, hmay⟩
    obtain hdisabled | hearly := h
    · exact Bool.false_ne_true (hdisabled.symm.trans henabled)
    · exact hearly hmay
  · exact fun ⟨htimeout, _⟩ => Bool.false_ne_true htimeout

/-- Settles O14: awake and asleep are the two cases of `State.timeOut`. -/
theorem watchdogTimeOutResetsOrWakes : Obligations.WatchdogTimeOutResetsOrWakes := by
  intro s hr h u
  have hsleep : u.sleeping = s.sleeping := s.boundary_sleeping
  rw [step_of_timesOut hr h]
  obtain ⟨hu, he⟩ | ⟨hu, he⟩ := u.timeOut_cases <;> rw [hsleep] at hu
  · exact ⟨fun _ => congrArg _ he, by simp [hu]⟩
  · exact ⟨by simp [hu], fun _ => congrArg _ he⟩

/-- Settles O17: asleep Timer0 stands still, and the prescaler has the clock of an enabled Watchdog
or none. -/
theorem sleepingCoreExecutesNothing : Obligations.SleepingCoreExecutesNothing := by
  intro s hu hsleep hwake i
  refine ⟨step_of_stayAsleep hu hsleep hwake, ?_⟩
  have hwdt : (s.takeInput.devices s.boundaryInput).wdt =
      if s.cfg.wdtEnabled then s.wdt + i.wdtTicks else s.wdt := State.devices_wdt _ _
  have hprescaler : s.takeInput.prescalerRuns = true ↔
      s.optionReg.getLsbD 3 = true ∧ s.cfg.wdtEnabled = true := by
    simp [State.prescalerRuns_iff, hsleep]
  rw [State.boundary, State.devices_frame, hwdt, State.devices_t0if, State.devices_tmr0,
    State.devices_prescaler, State.devices_sleepTime, eecon1_raise]
  simp [hsleep, hprescaler, i]

end Sys2Proof.Machine
end

section
/-! ### A silent environment -/

namespace Sys2Proof.Machine

variable {s : State}

theorem State.boundaryInput_of_silent (h : s.inputs = []) : s.boundaryInput = s.quietInput := by
  rw [State.boundaryInput, h]

theorem State.takeInput_of_silent (h : s.inputs = []) : s.takeInput = s := by
  rw [State.takeInput, State.boundaryInput_of_silent h, h]
  cases s; cases h; rfl

/-- With no flag raised and no count advanced the devices do nothing. -/
theorem State.devices_quietInput (s : State) : s.devices s.quietInput = s := by
  rw [State.devices_frame, State.devices_t0if, State.devices_tmr0, State.devices_wdt,
    State.devices_prescaler, State.devices_sleepTime]
  have : s.tmr0.toNat < 256 := s.tmr0.isLt
  simp [State.quietInput, noIrq, Nat.not_le.2 this]

theorem State.boundary_of_silent (h : s.inputs = []) : s.boundary = s := by
  rw [State.boundary, State.takeInput_of_silent h, State.boundaryInput_of_silent h,
    State.devices_quietInput]

theorem State.undisturbed_of_silent (h : s.inputs = []) : s.Undisturbed := by
  rw [State.Undisturbed, State.TimesOut, State.boundaryInput_of_silent h]
  exact ⟨rfl, fun ⟨htimeout, _⟩ => Bool.false_ne_true htimeout⟩

/-- With a silent environment the step looks at the very state. -/
theorem step_of_silent_awake (h : s.inputs = []) (hawake : s.sleeping = false)
    (hint : ¬ (s.intcon.gie = true ∧ s.PendingFlag)) : step s = s.runInstruction := by
  have hb := State.boundary_of_silent h
  rw [step_of_awake (State.undisturbed_of_silent h) hawake (by rwa [hb]), hb]

theorem step_of_silent_pending (h : s.inputs = []) (hawake : s.sleeping = false)
    (hgie : s.intcon.gie = true) (hp : s.PendingFlag) : step s = s.interruptEntry := by
  have hb := State.boundary_of_silent h
  have ht : s.TakesInterrupt := ⟨State.undisturbed_of_silent h, hawake, by rwa [hb], by rwa [hb]⟩
  rw [step_of_takesInterrupt ht, hb]

theorem State.nextWord_withFetchWord (s : State) (w : ProgWord) :
    (s.withFetchWord 14 w.toNat).nextWord = some w := by
  have hw : tableWord 14 w.toNat = w := by
    simp [tableWord, Nat.mod_eq_of_lt w.isLt]
  rw [State.withFetchWord, hw]
  exact State.fetch_ok (s.fetch_loadWord w)

/-- Settles O7: the placed word is the one the fetch finds, and it decodes to `i`. -/
theorem silentStepRunsThePlacedWord : Obligations.SilentStepRunsThePlacedWord := by
  intro s i hi hsilent hawake hint
  have hstep := step_of_silent_awake (s := s.withFetchWord 14 (encode i).toNat) hsilent hawake hint
  exact hstep.trans (State.runInstruction_of_decode (s.nextWord_withFetchWord (encode i))
    (decodeOfEncodeIsTheInstruction i hi))

end Sys2Proof.Machine
end

section
/-! ### Interrupt entry and the return from it -/

namespace Sys2Proof.Machine

variable {s t : State}

theorem State.interruptEntry_of_canPush (h : s.canPush) :
    s.interruptEntry = .next
      { s with
        intcon := { s.intcon with gie := false }
        stack := s.stack.set s.sp s.pc, sp := s.spUp, depth := s.depthUp, pc := s.cfg.intVector
        cycles := s.cycles + 2 } :=
  State.pushAndJump_of_canPush (s := s.setGie false) h s.pc s.cfg.intVector

theorem State.interruptEntry_of_not_canPush (h : ¬ s.canPush) :
    s.interruptEntry = .refused .stackOverflow :=
  State.interruptEntry_refused_iff.2 ⟨h, rfl⟩

/-- Settles O13: the entry is a push of the PC, which goes through or is refused. -/
theorem pendingInterruptIsTaken : Obligations.PendingInterruptIsTaken := by
  intro s h u
  rw [step_of_takesInterrupt h]
  exact ⟨State.interruptEntry_of_canPush, State.interruptEntry_of_not_canPush⟩

/-! The stack and the PC do not look at GIE. -/

theorem State.pushAndJump_setGie {v a : ProgAddr} (h : s.pushAndJump v a = .next t) (b : Bool) :
    (s.setGie b).pushAndJump v a = .next (t.setGie b) := by
  by_cases hc : s.canPush
  · rw [State.pushAndJump_of_canPush hc] at h
    cases h
    exact State.pushAndJump_of_canPush (s := s.setGie b) hc v a
  · rw [State.pushAndJump_of_not_canPush hc] at h
    cases h

theorem State.popAndJump_setGie (h : s.popAndJump = .next t) (b : Bool) :
    (s.setGie b).popAndJump = .next (t.setGie b) := by
  by_cases hc : s.canPop
  · rw [State.popAndJump_of_canPop hc] at h
    cases h
    exact State.popAndJump_of_canPop (s := s.setGie b) hc
  · rw [State.popAndJump_of_not_canPop hc] at h
    cases h

theorem State.setGie_self {b : Bool} (h : s.intcon.gie = b) : s.setGie b = s := by
  subst h; rfl

/-- Settles O30: the entry and RETFIE are a push and the pop after it. -/
theorem retfieUndoesInterruptEntry : Obligations.RetfieUndoesInterruptEntry := by
  intro s hwf h hgie
  obtain ⟨t, hpush, hpop⟩ := State.popAndJump_of_pushAndJump hwf h s.pc s.cfg.intVector
  obtain ⟨u, -, rfl⟩ := State.pushAndJump_next hpush
  have hentry := State.pushAndJump_setGie hpush false
  have hret := State.popAndJump_setGie hpop true
  refine ⟨_, { s with stack := s.stack.set s.sp s.pc, cycles := s.cycles + 4 }, hentry, rfl, rfl,
    hret.trans ?_, rfl, List.length_set, fun j hj => List.getElem?_set_ne hj.symm⟩
  exact congrArg _ (State.setGie_self hgie)

/-- One up from one down is where the pointer was. -/
theorem spUp_spDown {n p : Nat} (h : p < n) : ((p + n - 1) % n + 1) % n = p := by
  rw [Nat.mod_add_mod, show p + n - 1 + 1 = p + n by omega, Nat.add_mod_right, Nat.mod_eq_of_lt h]

theorem State.getElem?_spDown (hwf : s.stackWf = true) :
    s.stack[s.spDown]? = some s.tos := by
  obtain ⟨hcells, hsp⟩ := State.stackWf_iff.1 hwf
  have hlt : s.spDown < s.stack.length :=
    hcells ▸ Nat.mod_lt _ (Nat.zero_lt_of_lt hsp)
  simp [State.tos, hlt]

/-- Storing the top again changes no cell. -/
theorem State.set_spDown_tos (hwf : s.stackWf = true) : s.stack.set s.spDown s.tos = s.stack := by
  refine List.ext_getElem? fun j => ?_
  rw [List.getElem?_set']
  split
  · subst_vars; simp [State.getElem?_spDown hwf]
  · rfl

/-- The count after a pop that goes through and a push, under either policy. -/
theorem State.depthUp_depthDown (h : s.canPop) :
    State.depthUp { s with depth := s.depthDown } = s.depth := by
  unfold State.depthUp State.depthDown
  cases hp : s.cfg.stackPolicy with
  | wrap => rfl
  | fault => exact Nat.sub_add_cancel (h.resolve_left (by simp [hp]))

/-- After a pop there is room to push, if the stack did not hold more entries than cells. -/
theorem State.canPush_depthDown (h : s.canPop)
    (hlive : s.cfg.stackPolicy = .fault → s.depth ≤ s.cfg.stackDepth) :
    State.canPush { s with depth := s.depthDown } := by
  unfold State.canPush State.depthDown
  cases hp : s.cfg.stackPolicy with
  | wrap => exact .inl rfl
  | fault =>
    have hpos : 0 < s.depth := h.resolve_left (by simp [hp])
    exact .inr (Nat.lt_of_lt_of_le (Nat.sub_lt hpos Nat.one_pos) (hlive hp))

/-- A push of the value a pop has just returned leaves nothing behind but the PC and the cycles. -/
theorem State.pushAndJump_of_popAndJump (hwf : s.stackWf = true) (h : s.canPop)
    (hlive : s.cfg.stackPolicy = .fault → s.depth ≤ s.cfg.stackDepth) (a : ProgAddr) :
    ∃ t, s.popAndJump = .next t ∧
      t.pushAndJump t.pc a = .next { s with pc := a, cycles := s.cycles + 4 } := by
  obtain ⟨-, hsp⟩ := State.stackWf_iff.1 hwf
  have hup : (s.spDown + 1) % s.cfg.stackDepth = s.sp := spUp_spDown hsp
  refine ⟨_, State.popAndJump_of_canPop h, (State.pushAndJump_of_canPush ?_ _ a).trans ?_⟩
  · exact State.canPush_depthDown h hlive
  · exact congr(Host.Outcome.next { s with
      stack := $(State.set_spDown_tos hwf), sp := $hup, depth := $(State.depthUp_depthDown h)
      pc := a, cycles := s.cycles + 4 })

/-- Settles O31: RETFIE is a pop, and the entry that follows pushes the value back. -/
theorem retfieWithAPendingFlagReentersTheHandler :
    Obligations.RetfieWithAPendingFlagReentersTheHandler := by
  intro s w hsilent hawake hgie hp hwf hdepth hw hd
  have hpop : s.canPop := hdepth.imp_right And.left
  have hlive : s.cfg.stackPolicy = .fault → s.depth ≤ s.cfg.stackDepth := fun hfault =>
    (hdepth.resolve_left (by simp [hfault])).2
  obtain ⟨t, hret, hpush⟩ := State.pushAndJump_of_popAndJump hwf hpop hlive s.cfg.intVector
  have hstep : step s = .next (t.setGie true) := by
    rw [step_of_silent_awake hsilent hawake (by simp [hgie]), State.runInstruction_of_decode hw hd]
    exact State.popAndJump_setGie hret true
  have hreenter (hsilent : t.inputs = []) (hawake : t.sleeping = false) (hp : t.PendingFlag)
      (hcfg : t.cfg = s.cfg) :
      step (t.setGie true) = .next { s with pc := s.cfg.intVector, cycles := s.cycles + 4 } := by
    calc step (t.setGie true)
        = (t.setGie false).pushAndJump t.pc s.cfg.intVector := by
          rw [← hcfg]
          exact step_of_silent_pending (s := t.setGie true) hsilent hawake rfl hp
      _ = _ := State.pushAndJump_setGie hpush false
      _ = _ := congrArg _ (State.setGie_self hgie)
  obtain rfl := Host.Outcome.next.inj (hret.symm.trans (State.popAndJump_of_canPop hpop))
  exact ⟨_, hstep, State.getElem?_spDown hwf, rfl, hreenter hsilent hawake hp rfl⟩

end Sys2Proof.Machine
end

section
/-! ### The resets that are not a power-on -/

namespace Sys2Proof.Machine

/-- The mask of a reset keeps WRERR of EECON1 (rule R241). -/
theorem eecon1_and_wrerr (e : BitVec 5) :
    e &&& 0b01000#5 = if e.getLsbD 3 then 0x08#5 else 0x00#5 :=
  BitVec.and_twoPow e 3

/-- An MCLR reset in normal operation writes TO and PD as they were. -/
theorem State.applyReset_mclrNormal (s : State) :
    s.applyReset .mclrNormal = s.resetCommon.setToPd s.status.toBit s.status.pdBit := rfl

/-- Settles O10: each of the three is the common reset and then a write of TO and PD, field by field
but for EECON1, which `eecon1_and_wrerr` gives. -/
theorem otherResetsLeaveTheResetTable : Obligations.OtherResetsLeaveTheResetTable := by
  intro s
  rw [State.applyReset_mclrNormal, ← eecon1_and_wrerr]
  exact ⟨rfl, rfl, rfl⟩

end Sys2Proof.Machine
end
